-- ==== Sys2Proof/Word.lean ====
section
/-! DEFINITION. The two widths of Net8080 CORE (00_scope.md R6): 8-bit data and 16-bit addresses. -/

namespace Sys2Proof

/-- An 8-bit value (00_scope.md R8: `u8`). -/
abbrev Byte := BitVec 8

/-- A 16-bit value: an address, a pair, `pc`, `sp` (00_scope.md R8: `u16`). Its arithmetic wraps mod 65536 (10_state.md R25). -/
abbrev Word := BitVec 16

end Sys2Proof
end

