-- ==== Sys2Proof/Syntax.lean ====
section
/-! DEFINITION. The instructions of Net8080 CORE: one constructor for each mnemonic of spec/opcode_table.json, by
family, and the names the encoding's fields stand for (30_encoding.md R101). -/

namespace Sys2Proof

/-- The seven 8-bit registers that have storage (10_state.md R20). -/
inductive Reg where
  | b | c | d | e | h | l | a
  deriving DecidableEq, Repr

/-- What a 3-bit register field selects: a register, or index 6, the memory byte at HL (10_state.md R20 to R22). -/
inductive RegM where
  | reg (r : Reg)
  | mem
  deriving DecidableEq, Repr

/-- What the 2-bit pair field selects in LXI, INX, DCX and DAD (10_state.md R24). -/
inductive RegPair where
  | bc | de | hl | sp
  deriving DecidableEq, Repr

/-- The pairs PUSH and POP take besides PSW (44_stack_io_control.md R280, R282). -/
inductive StackPair where
  | bc | de | hl
  deriving DecidableEq, Repr

/-- The pairs LDAX and STAX take (40_data_transfer.md R150, R151). -/
inductive IndexPair where
  | bc | de
  deriving DecidableEq, Repr

/-- The eight ALU operations of field `ooo` (30_encoding.md R101). -/
inductive AluOp where
  | add | adc | sub | sbb | ana | xra | ora | cmp
  deriving DecidableEq, Repr

/-- The eight conditions of field `ccc` (43_branch.md R250). -/
inductive Cond where
  | nz | z | nc | c | po | pe | p | m
  deriving DecidableEq, Repr

/-- The instructions. A constructor's operands are the bytes that follow the opcode; the two alias constructors carry
the field bits that tell their opcode bytes apart (notes/assumptions/8.md). -/
inductive Instr where
  -- Data transfer (40_data_transfer.md)
  /-- `MOV B,B`, 0x40 (R140) -/
  | movBB
  /-- `MOV B,C`, 0x41 (R140) -/
  | movBC
  /-- `MOV B,D`, 0x42 (R140) -/
  | movBD
  /-- `MOV B,E`, 0x43 (R140) -/
  | movBE
  /-- `MOV B,H`, 0x44 (R140) -/
  | movBH
  /-- `MOV B,L`, 0x45 (R140) -/
  | movBL
  /-- `MOV B,A`, 0x47 (R140) -/
  | movBA
  /-- `MOV C,B`, 0x48 (R140) -/
  | movCB
  /-- `MOV C,C`, 0x49 (R140) -/
  | movCC
  /-- `MOV C,D`, 0x4A (R140) -/
  | movCD
  /-- `MOV C,E`, 0x4B (R140) -/
  | movCE
  /-- `MOV C,H`, 0x4C (R140) -/
  | movCH
  /-- `MOV C,L`, 0x4D (R140) -/
  | movCL
  /-- `MOV C,A`, 0x4F (R140) -/
  | movCA
  /-- `MOV D,B`, 0x50 (R140) -/
  | movDB
  /-- `MOV D,C`, 0x51 (R140) -/
  | movDC
  /-- `MOV D,D`, 0x52 (R140) -/
  | movDD
  /-- `MOV D,E`, 0x53 (R140) -/
  | movDE
  /-- `MOV D,H`, 0x54 (R140) -/
  | movDH
  /-- `MOV D,L`, 0x55 (R140) -/
  | movDL
  /-- `MOV D,A`, 0x57 (R140) -/
  | movDA
  /-- `MOV E,B`, 0x58 (R140) -/
  | movEB
  /-- `MOV E,C`, 0x59 (R140) -/
  | movEC
  /-- `MOV E,D`, 0x5A (R140) -/
  | movED
  /-- `MOV E,E`, 0x5B (R140) -/
  | movEE
  /-- `MOV E,H`, 0x5C (R140) -/
  | movEH
  /-- `MOV E,L`, 0x5D (R140) -/
  | movEL
  /-- `MOV E,A`, 0x5F (R140) -/
  | movEA
  /-- `MOV H,B`, 0x60 (R140) -/
  | movHB
  /-- `MOV H,C`, 0x61 (R140) -/
  | movHC
  /-- `MOV H,D`, 0x62 (R140) -/
  | movHD
  /-- `MOV H,E`, 0x63 (R140) -/
  | movHE
  /-- `MOV H,H`, 0x64 (R140) -/
  | movHH
  /-- `MOV H,L`, 0x65 (R140) -/
  | movHL
  /-- `MOV H,A`, 0x67 (R140) -/
  | movHA
  /-- `MOV L,B`, 0x68 (R140) -/
  | movLB
  /-- `MOV L,C`, 0x69 (R140) -/
  | movLC
  /-- `MOV L,D`, 0x6A (R140) -/
  | movLD
  /-- `MOV L,E`, 0x6B (R140) -/
  | movLE
  /-- `MOV L,H`, 0x6C (R140) -/
  | movLH
  /-- `MOV L,L`, 0x6D (R140) -/
  | movLL
  /-- `MOV L,A`, 0x6F (R140) -/
  | movLA
  /-- `MOV A,B`, 0x78 (R140) -/
  | movAB
  /-- `MOV A,C`, 0x79 (R140) -/
  | movAC
  /-- `MOV A,D`, 0x7A (R140) -/
  | movAD
  /-- `MOV A,E`, 0x7B (R140) -/
  | movAE
  /-- `MOV A,H`, 0x7C (R140) -/
  | movAH
  /-- `MOV A,L`, 0x7D (R140) -/
  | movAL
  /-- `MOV A,A`, 0x7F (R140) -/
  | movAA
  /-- `MOV B,M`, 0x46 (R141) -/
  | movBM
  /-- `MOV C,M`, 0x4E (R141) -/
  | movCM
  /-- `MOV D,M`, 0x56 (R141) -/
  | movDM
  /-- `MOV E,M`, 0x5E (R141) -/
  | movEM
  /-- `MOV H,M`, 0x66 (R141) -/
  | movHM
  /-- `MOV L,M`, 0x6E (R141) -/
  | movLM
  /-- `MOV A,M`, 0x7E (R141) -/
  | movAM
  /-- `MOV M,B`, 0x70 (R142) -/
  | movMB
  /-- `MOV M,C`, 0x71 (R142) -/
  | movMC
  /-- `MOV M,D`, 0x72 (R142) -/
  | movMD
  /-- `MOV M,E`, 0x73 (R142) -/
  | movME
  /-- `MOV M,H`, 0x74 (R142) -/
  | movMH
  /-- `MOV M,L`, 0x75 (R142) -/
  | movML
  /-- `MOV M,A`, 0x77 (R142) -/
  | movMA
  /-- `MVI B,d8`, 0x06 (R143) -/
  | mviB (d8 : Byte)
  /-- `MVI C,d8`, 0x0E (R143) -/
  | mviC (d8 : Byte)
  /-- `MVI D,d8`, 0x16 (R143) -/
  | mviD (d8 : Byte)
  /-- `MVI E,d8`, 0x1E (R143) -/
  | mviE (d8 : Byte)
  /-- `MVI H,d8`, 0x26 (R143) -/
  | mviH (d8 : Byte)
  /-- `MVI L,d8`, 0x2E (R143) -/
  | mviL (d8 : Byte)
  /-- `MVI A,d8`, 0x3E (R143) -/
  | mviA (d8 : Byte)
  /-- `MVI M,d8`, 0x36 (R144) -/
  | mviM (d8 : Byte)
  /-- `LXI B,d16`, 0x01 (R145) -/
  | lxiB (d16 : Word)
  /-- `LXI D,d16`, 0x11 (R145) -/
  | lxiD (d16 : Word)
  /-- `LXI H,d16`, 0x21 (R145) -/
  | lxiH (d16 : Word)
  /-- `LXI SP,d16`, 0x31 (R145) -/
  | lxiSP (d16 : Word)
  /-- `LDA a16`, 0x3A (R146) -/
  | lda (a16 : Word)
  /-- `STA a16`, 0x32 (R147) -/
  | sta (a16 : Word)
  /-- `LHLD a16`, 0x2A (R148) -/
  | lhld (a16 : Word)
  /-- `SHLD a16`, 0x22 (R149) -/
  | shld (a16 : Word)
  /-- `LDAX B`, 0x0A (R150) -/
  | ldaxB
  /-- `LDAX D`, 0x1A (R150) -/
  | ldaxD
  /-- `STAX B`, 0x02 (R151) -/
  | staxB
  /-- `STAX D`, 0x12 (R151) -/
  | staxD
  /-- `XCHG`, 0xEB (R152) -/
  | xchg
  -- Arithmetic (41_arithmetic.md)
  /-- `ADD B`, 0x80 (R175) -/
  | addB
  /-- `ADD C`, 0x81 (R175) -/
  | addC
  /-- `ADD D`, 0x82 (R175) -/
  | addD
  /-- `ADD E`, 0x83 (R175) -/
  | addE
  /-- `ADD H`, 0x84 (R175) -/
  | addH
  /-- `ADD L`, 0x85 (R175) -/
  | addL
  /-- `ADD M`, 0x86 (R175) -/
  | addM
  /-- `ADD A`, 0x87 (R175) -/
  | addA
  /-- `ADC B`, 0x88 (R176) -/
  | adcB
  /-- `ADC C`, 0x89 (R176) -/
  | adcC
  /-- `ADC D`, 0x8A (R176) -/
  | adcD
  /-- `ADC E`, 0x8B (R176) -/
  | adcE
  /-- `ADC H`, 0x8C (R176) -/
  | adcH
  /-- `ADC L`, 0x8D (R176) -/
  | adcL
  /-- `ADC M`, 0x8E (R176) -/
  | adcM
  /-- `ADC A`, 0x8F (R176) -/
  | adcA
  /-- `SUB B`, 0x90 (R177) -/
  | subB
  /-- `SUB C`, 0x91 (R177) -/
  | subC
  /-- `SUB D`, 0x92 (R177) -/
  | subD
  /-- `SUB E`, 0x93 (R177) -/
  | subE
  /-- `SUB H`, 0x94 (R177) -/
  | subH
  /-- `SUB L`, 0x95 (R177) -/
  | subL
  /-- `SUB M`, 0x96 (R177) -/
  | subM
  /-- `SUB A`, 0x97 (R177) -/
  | subA
  /-- `SBB B`, 0x98 (R178) -/
  | sbbB
  /-- `SBB C`, 0x99 (R178) -/
  | sbbC
  /-- `SBB D`, 0x9A (R178) -/
  | sbbD
  /-- `SBB E`, 0x9B (R178) -/
  | sbbE
  /-- `SBB H`, 0x9C (R178) -/
  | sbbH
  /-- `SBB L`, 0x9D (R178) -/
  | sbbL
  /-- `SBB M`, 0x9E (R178) -/
  | sbbM
  /-- `SBB A`, 0x9F (R178) -/
  | sbbA
  /-- `ADI d8`, 0xC6 (R179) -/
  | adi (d8 : Byte)
  /-- `ACI d8`, 0xCE (R180) -/
  | aci (d8 : Byte)
  /-- `SUI d8`, 0xD6 (R181) -/
  | sui (d8 : Byte)
  /-- `SBI d8`, 0xDE (R182) -/
  | sbi (d8 : Byte)
  /-- `INR B`, 0x04 (R183) -/
  | inrB
  /-- `INR C`, 0x0C (R183) -/
  | inrC
  /-- `INR D`, 0x14 (R183) -/
  | inrD
  /-- `INR E`, 0x1C (R183) -/
  | inrE
  /-- `INR H`, 0x24 (R183) -/
  | inrH
  /-- `INR L`, 0x2C (R183) -/
  | inrL
  /-- `INR A`, 0x3C (R183) -/
  | inrA
  /-- `INR M`, 0x34 (R184) -/
  | inrM
  /-- `DCR B`, 0x05 (R185) -/
  | dcrB
  /-- `DCR C`, 0x0D (R185) -/
  | dcrC
  /-- `DCR D`, 0x15 (R185) -/
  | dcrD
  /-- `DCR E`, 0x1D (R185) -/
  | dcrE
  /-- `DCR H`, 0x25 (R185) -/
  | dcrH
  /-- `DCR L`, 0x2D (R185) -/
  | dcrL
  /-- `DCR A`, 0x3D (R185) -/
  | dcrA
  /-- `DCR M`, 0x35 (R186) -/
  | dcrM
  /-- `INX B`, 0x03 (R187) -/
  | inxB
  /-- `INX D`, 0x13 (R187) -/
  | inxD
  /-- `INX H`, 0x23 (R187) -/
  | inxH
  /-- `INX SP`, 0x33 (R187) -/
  | inxSP
  /-- `DCX B`, 0x0B (R188) -/
  | dcxB
  /-- `DCX D`, 0x1B (R188) -/
  | dcxD
  /-- `DCX H`, 0x2B (R188) -/
  | dcxH
  /-- `DCX SP`, 0x3B (R188) -/
  | dcxSP
  /-- `DAD B`, 0x09 (R189) -/
  | dadB
  /-- `DAD D`, 0x19 (R189) -/
  | dadD
  /-- `DAD H`, 0x29 (R189) -/
  | dadH
  /-- `DAD SP`, 0x39 (R189) -/
  | dadSP
  /-- `DAA`, 0x27 (R190) -/
  | daa
  -- Logical, compare, rotate, carry (42_logical.md)
  /-- `ANA B`, 0xA0 (R215) -/
  | anaB
  /-- `ANA C`, 0xA1 (R215) -/
  | anaC
  /-- `ANA D`, 0xA2 (R215) -/
  | anaD
  /-- `ANA E`, 0xA3 (R215) -/
  | anaE
  /-- `ANA H`, 0xA4 (R215) -/
  | anaH
  /-- `ANA L`, 0xA5 (R215) -/
  | anaL
  /-- `ANA M`, 0xA6 (R215) -/
  | anaM
  /-- `ANA A`, 0xA7 (R215) -/
  | anaA
  /-- `XRA B`, 0xA8 (R216) -/
  | xraB
  /-- `XRA C`, 0xA9 (R216) -/
  | xraC
  /-- `XRA D`, 0xAA (R216) -/
  | xraD
  /-- `XRA E`, 0xAB (R216) -/
  | xraE
  /-- `XRA H`, 0xAC (R216) -/
  | xraH
  /-- `XRA L`, 0xAD (R216) -/
  | xraL
  /-- `XRA M`, 0xAE (R216) -/
  | xraM
  /-- `XRA A`, 0xAF (R216) -/
  | xraA
  /-- `ORA B`, 0xB0 (R217) -/
  | oraB
  /-- `ORA C`, 0xB1 (R217) -/
  | oraC
  /-- `ORA D`, 0xB2 (R217) -/
  | oraD
  /-- `ORA E`, 0xB3 (R217) -/
  | oraE
  /-- `ORA H`, 0xB4 (R217) -/
  | oraH
  /-- `ORA L`, 0xB5 (R217) -/
  | oraL
  /-- `ORA M`, 0xB6 (R217) -/
  | oraM
  /-- `ORA A`, 0xB7 (R217) -/
  | oraA
  /-- `CMP B`, 0xB8 (R218) -/
  | cmpB
  /-- `CMP C`, 0xB9 (R218) -/
  | cmpC
  /-- `CMP D`, 0xBA (R218) -/
  | cmpD
  /-- `CMP E`, 0xBB (R218) -/
  | cmpE
  /-- `CMP H`, 0xBC (R218) -/
  | cmpH
  /-- `CMP L`, 0xBD (R218) -/
  | cmpL
  /-- `CMP M`, 0xBE (R218) -/
  | cmpM
  /-- `CMP A`, 0xBF (R218) -/
  | cmpA
  /-- `ANI d8`, 0xE6 (R219) -/
  | ani (d8 : Byte)
  /-- `XRI d8`, 0xEE (R220) -/
  | xri (d8 : Byte)
  /-- `ORI d8`, 0xF6 (R221) -/
  | ori (d8 : Byte)
  /-- `CPI d8`, 0xFE (R222) -/
  | cpi (d8 : Byte)
  /-- `RLC`, 0x07 (R223) -/
  | rlc
  /-- `RRC`, 0x0F (R224) -/
  | rrc
  /-- `RAL`, 0x17 (R225) -/
  | ral
  /-- `RAR`, 0x1F (R226) -/
  | rar
  /-- `CMA`, 0x2F (R227) -/
  | cma
  /-- `STC`, 0x37 (R228) -/
  | stc
  /-- `CMC`, 0x3F (R229) -/
  | cmc
  -- Control transfer (43_branch.md)
  /-- `JMP a16`, 0xC3 (R252) -/
  | jmp (a16 : Word)
  /-- `JNZ a16`, 0xC2 (R253) -/
  | jnz (a16 : Word)
  /-- `JZ a16`, 0xCA (R253) -/
  | jz (a16 : Word)
  /-- `JNC a16`, 0xD2 (R253) -/
  | jnc (a16 : Word)
  /-- `JC a16`, 0xDA (R253) -/
  | jc (a16 : Word)
  /-- `JPO a16`, 0xE2 (R253) -/
  | jpo (a16 : Word)
  /-- `JPE a16`, 0xEA (R253) -/
  | jpe (a16 : Word)
  /-- `JP a16`, 0xF2 (R253) -/
  | jp (a16 : Word)
  /-- `JM a16`, 0xFA (R253) -/
  | jm (a16 : Word)
  /-- `CALL a16`, 0xCD (R254) -/
  | call (a16 : Word)
  /-- `CNZ a16`, 0xC4 (R255) -/
  | cnz (a16 : Word)
  /-- `CZ a16`, 0xCC (R255) -/
  | cz (a16 : Word)
  /-- `CNC a16`, 0xD4 (R255) -/
  | cnc (a16 : Word)
  /-- `CC a16`, 0xDC (R255) -/
  | cc (a16 : Word)
  /-- `CPO a16`, 0xE4 (R255) -/
  | cpo (a16 : Word)
  /-- `CPE a16`, 0xEC (R255) -/
  | cpe (a16 : Word)
  /-- `CP a16`, 0xF4 (R255) -/
  | cp (a16 : Word)
  /-- `CM a16`, 0xFC (R255) -/
  | cm (a16 : Word)
  /-- `RET`, 0xC9 (R256) -/
  | ret
  /-- `RNZ`, 0xC0 (R257) -/
  | rnz
  /-- `RZ`, 0xC8 (R257) -/
  | rz
  /-- `RNC`, 0xD0 (R257) -/
  | rnc
  /-- `RC`, 0xD8 (R257) -/
  | rc
  /-- `RPO`, 0xE0 (R257) -/
  | rpo
  /-- `RPE`, 0xE8 (R257) -/
  | rpe
  /-- `RP`, 0xF0 (R257) -/
  | rp
  /-- `RM`, 0xF8 (R257) -/
  | rm
  /-- `RST 0`, 0xC7 (R258) -/
  | rst0
  /-- `RST 1`, 0xCF (R258) -/
  | rst1
  /-- `RST 2`, 0xD7 (R258) -/
  | rst2
  /-- `RST 3`, 0xDF (R258) -/
  | rst3
  /-- `RST 4`, 0xE7 (R258) -/
  | rst4
  /-- `RST 5`, 0xEF (R258) -/
  | rst5
  /-- `RST 6`, 0xF7 (R258) -/
  | rst6
  /-- `RST 7`, 0xFF (R258) -/
  | rst7
  /-- `PCHL`, 0xE9 (R259) -/
  | pchl
  /-- `JMP (alias) a16`, 0xCB (R260) -/
  | jmpAlias (a16 : Word)
  /-- `RET (alias)`, 0xD9 (R261) -/
  | retAlias
  /-- `CALL (alias) a16`, the three bytes `11pp1101` with `pp` != 0 (R262) -/
  | callAlias (pp : BitVec 2) (a16 : Word)
  -- Stack, input/output, machine control (44_stack_io_control.md)
  /-- `IN d8`, 0xDB (R286) -/
  | inPort (d8 : Byte)
  /-- `OUT d8`, 0xD3 (R287) -/
  | outPort (d8 : Byte)
  /-- `NOP (alias)`, the seven bytes `00nnn000` with `nnn` != 0 (R292) -/
  | nopAlias (nnn : BitVec 3)
  /-- `PUSH B`, 0xC5 (R280) -/
  | pushB
  /-- `PUSH D`, 0xD5 (R280) -/
  | pushD
  /-- `PUSH H`, 0xE5 (R280) -/
  | pushH
  /-- `PUSH PSW`, 0xF5 (R281) -/
  | pushPSW
  /-- `POP B`, 0xC1 (R282) -/
  | popB
  /-- `POP D`, 0xD1 (R282) -/
  | popD
  /-- `POP H`, 0xE1 (R282) -/
  | popH
  /-- `POP PSW`, 0xF1 (R283) -/
  | popPSW
  /-- `XTHL`, 0xE3 (R284) -/
  | xthl
  /-- `SPHL`, 0xF9 (R285) -/
  | sphl
  /-- `EI`, 0xFB (R288) -/
  | ei
  /-- `DI`, 0xF3 (R289) -/
  | di
  /-- `HLT`, 0x76 (R290) -/
  | hlt
  /-- `NOP`, 0x00 (R291) -/
  | nop
  deriving DecidableEq, Repr

end Sys2Proof
end

