-- ==== Sys2Proof/WellFormed.lean ====
section
/-! DEFINITION. Which terms of Instr stand for an instruction. Field widths are in the types; what is left to check is
that an alias constructor carries one of the field values 30_encoding.md R102 gives the alias. -/

namespace Sys2Proof

/-- The constraints of 30_encoding.md R102 that the types do not hold: `nnn` != 0 for the NOP aliases (with `nnn` = 0 the
byte is NOP itself), `pp` != 0 for the CALL aliases (with `pp` = 0 it is CALL itself). -/
def Instr.wellFormed : Instr → Bool
  | .nopAlias nnn => nnn != 0#3
  | .callAlias pp _ => pp != 0#2
  | .movBB | .movBC | .movBD | .movBE | .movBH | .movBL | .movBA | .movCB | .movCC | .movCD
  | .movCE | .movCH | .movCL | .movCA | .movDB | .movDC | .movDD | .movDE | .movDH | .movDL
  | .movDA | .movEB | .movEC | .movED | .movEE | .movEH | .movEL | .movEA | .movHB | .movHC
  | .movHD | .movHE | .movHH | .movHL | .movHA | .movLB | .movLC | .movLD | .movLE | .movLH
  | .movLL | .movLA | .movAB | .movAC | .movAD | .movAE | .movAH | .movAL | .movAA | .movBM
  | .movCM | .movDM | .movEM | .movHM | .movLM | .movAM | .movMB | .movMC | .movMD | .movME
  | .movMH | .movML | .movMA | .mviB _ | .mviC _ | .mviD _ | .mviE _ | .mviH _ | .mviL _ | .mviA _
  | .mviM _ | .lxiB _ | .lxiD _ | .lxiH _ | .lxiSP _ | .lda _ | .sta _ | .lhld _ | .shld _ | .ldaxB
  | .ldaxD | .staxB | .staxD | .xchg | .addB | .addC | .addD | .addE | .addH | .addL
  | .addM | .addA | .adcB | .adcC | .adcD | .adcE | .adcH | .adcL | .adcM | .adcA
  | .subB | .subC | .subD | .subE | .subH | .subL | .subM | .subA | .sbbB | .sbbC
  | .sbbD | .sbbE | .sbbH | .sbbL | .sbbM | .sbbA | .adi _ | .aci _ | .sui _ | .sbi _
  | .inrB | .inrC | .inrD | .inrE | .inrH | .inrL | .inrA | .inrM | .dcrB | .dcrC
  | .dcrD | .dcrE | .dcrH | .dcrL | .dcrA | .dcrM | .inxB | .inxD | .inxH | .inxSP
  | .dcxB | .dcxD | .dcxH | .dcxSP | .dadB | .dadD | .dadH | .dadSP | .daa | .anaB
  | .anaC | .anaD | .anaE | .anaH | .anaL | .anaM | .anaA | .xraB | .xraC | .xraD
  | .xraE | .xraH | .xraL | .xraM | .xraA | .oraB | .oraC | .oraD | .oraE | .oraH
  | .oraL | .oraM | .oraA | .cmpB | .cmpC | .cmpD | .cmpE | .cmpH | .cmpL | .cmpM
  | .cmpA | .ani _ | .xri _ | .ori _ | .cpi _ | .rlc | .rrc | .ral | .rar | .cma
  | .stc | .cmc | .jmp _ | .jnz _ | .jz _ | .jnc _ | .jc _ | .jpo _ | .jpe _ | .jp _
  | .jm _ | .call _ | .cnz _ | .cz _ | .cnc _ | .cc _ | .cpo _ | .cpe _ | .cp _ | .cm _
  | .ret | .rnz | .rz | .rnc | .rc | .rpo | .rpe | .rp | .rm | .rst0
  | .rst1 | .rst2 | .rst3 | .rst4 | .rst5 | .rst6 | .rst7 | .pchl | .jmpAlias _ | .retAlias
  | .inPort _ | .outPort _ | .pushB | .pushD | .pushH | .pushPSW | .popB | .popD | .popH | .popPSW
  | .xthl | .sphl | .ei | .di | .hlt | .nop => true

end Sys2Proof
end

