-- ==== Sys2Proof/Decode.lean ====
section
/-! DEFINITION. From bytes to instructions and back: the lengths (30_encoding.md R100, R105), the opcode map row by row
as R112 prints it, the decoder, the encoder, and the field views of R102 (an instruction named by the fields of its
opcode byte). The byte values are the spec's GK1 (93_implementation_defined.md). -/

namespace Sys2Proof

/-! ### Byte order (20_memory.md R60, 30_encoding.md R104) -/

/-- `hi ++ lo` (00_scope.md R8). -/
def wordOf (hi lo : Byte) : Word := hi ++ lo

/-- `w[7:0]`. -/
def lowByte (w : Word) : Byte := w.extractLsb' 0 8

/-- `w[15:8]`. -/
def highByte (w : Word) : Byte := w.extractLsb' 8 8

/-- The two operand bytes of a 16-bit operand, low byte first. -/
def wordBytes (w : Word) : List Byte := [lowByte w, highByte w]

/-! ### Lengths -/

/-- The three formats (R100). -/
inductive Format where
  | f1 | f2 | f3
  deriving DecidableEq, Repr

/-- The number of bytes of a format (R100). -/
def formatLength : Format → Nat
  | .f1 => 1
  | .f2 => 2
  | .f3 => 3

/-- `op` matches a pattern of R102 or R105: the bits under `mask` are `value`. -/
def matchesPattern (op mask value : Byte) : Bool := op &&& mask == value

/-- The format the opcode byte decides, by the patterns of R105. -/
def formatOf (op : Byte) : Format :=
  if matchesPattern op 0xCF#8 0x01#8        -- 00pp0001  LXI
    || matchesPattern op 0xE7#8 0x22#8      -- 001xx010  SHLD LHLD STA LDA
    || matchesPattern op 0xC7#8 0xC2#8      -- 11ccc010  Jcc
    || matchesPattern op 0xC7#8 0xC4#8      -- 11ccc100  Ccc
    || matchesPattern op 0xF7#8 0xC3#8      -- 1100x011  JMP and 0xCB
    || matchesPattern op 0xCF#8 0xCD#8      -- 11xx1101  CALL and 0xDD 0xED 0xFD
  then .f3
  else if matchesPattern op 0xC7#8 0x06#8   -- 00ddd110  MVI
    || matchesPattern op 0xC7#8 0xC6#8      -- 11ooo110  ADI to CPI
    || matchesPattern op 0xF7#8 0xD3#8      -- 1101x011  OUT, IN
  then .f2
  else .f1

/-! ### The opcode map (R112): `d` is the 8-bit operand, `w` the 16-bit operand -/

/-- Row 0x of 30_encoding.md R112. -/
def opRow0 (d : Byte) (w : Word) : Vector Instr 16 := #v[
  .nop, .lxiB w, .staxB, .inxB, .inrB, .dcrB, .mviB d, .rlc,
  .nopAlias 1, .dadB, .ldaxB, .dcxB, .inrC, .dcrC, .mviC d, .rrc]

/-- Row 1x of 30_encoding.md R112. -/
def opRow1 (d : Byte) (w : Word) : Vector Instr 16 := #v[
  .nopAlias 2, .lxiD w, .staxD, .inxD, .inrD, .dcrD, .mviD d, .ral,
  .nopAlias 3, .dadD, .ldaxD, .dcxD, .inrE, .dcrE, .mviE d, .rar]

/-- Row 2x of 30_encoding.md R112. -/
def opRow2 (d : Byte) (w : Word) : Vector Instr 16 := #v[
  .nopAlias 4, .lxiH w, .shld w, .inxH, .inrH, .dcrH, .mviH d, .daa,
  .nopAlias 5, .dadH, .lhld w, .dcxH, .inrL, .dcrL, .mviL d, .cma]

/-- Row 3x of 30_encoding.md R112. -/
def opRow3 (d : Byte) (w : Word) : Vector Instr 16 := #v[
  .nopAlias 6, .lxiSP w, .sta w, .inxSP, .inrM, .dcrM, .mviM d, .stc,
  .nopAlias 7, .dadSP, .lda w, .dcxSP, .inrA, .dcrA, .mviA d, .cmc]

/-- Row 4x of 30_encoding.md R112. -/
def opRow4 (_ : Byte) (_ : Word) : Vector Instr 16 := #v[
  .movBB, .movBC, .movBD, .movBE, .movBH, .movBL, .movBM, .movBA,
  .movCB, .movCC, .movCD, .movCE, .movCH, .movCL, .movCM, .movCA]

/-- Row 5x of 30_encoding.md R112. -/
def opRow5 (_ : Byte) (_ : Word) : Vector Instr 16 := #v[
  .movDB, .movDC, .movDD, .movDE, .movDH, .movDL, .movDM, .movDA,
  .movEB, .movEC, .movED, .movEE, .movEH, .movEL, .movEM, .movEA]

/-- Row 6x of 30_encoding.md R112. -/
def opRow6 (_ : Byte) (_ : Word) : Vector Instr 16 := #v[
  .movHB, .movHC, .movHD, .movHE, .movHH, .movHL, .movHM, .movHA,
  .movLB, .movLC, .movLD, .movLE, .movLH, .movLL, .movLM, .movLA]

/-- Row 7x of 30_encoding.md R112. -/
def opRow7 (_ : Byte) (_ : Word) : Vector Instr 16 := #v[
  .movMB, .movMC, .movMD, .movME, .movMH, .movML, .hlt, .movMA,
  .movAB, .movAC, .movAD, .movAE, .movAH, .movAL, .movAM, .movAA]

/-- Row 8x of 30_encoding.md R112. -/
def opRow8 (_ : Byte) (_ : Word) : Vector Instr 16 := #v[
  .addB, .addC, .addD, .addE, .addH, .addL, .addM, .addA,
  .adcB, .adcC, .adcD, .adcE, .adcH, .adcL, .adcM, .adcA]

/-- Row 9x of 30_encoding.md R112. -/
def opRow9 (_ : Byte) (_ : Word) : Vector Instr 16 := #v[
  .subB, .subC, .subD, .subE, .subH, .subL, .subM, .subA,
  .sbbB, .sbbC, .sbbD, .sbbE, .sbbH, .sbbL, .sbbM, .sbbA]

/-- Row Ax of 30_encoding.md R112. -/
def opRowA (_ : Byte) (_ : Word) : Vector Instr 16 := #v[
  .anaB, .anaC, .anaD, .anaE, .anaH, .anaL, .anaM, .anaA,
  .xraB, .xraC, .xraD, .xraE, .xraH, .xraL, .xraM, .xraA]

/-- Row Bx of 30_encoding.md R112. -/
def opRowB (_ : Byte) (_ : Word) : Vector Instr 16 := #v[
  .oraB, .oraC, .oraD, .oraE, .oraH, .oraL, .oraM, .oraA,
  .cmpB, .cmpC, .cmpD, .cmpE, .cmpH, .cmpL, .cmpM, .cmpA]

/-- Row Cx of 30_encoding.md R112. -/
def opRowC (d : Byte) (w : Word) : Vector Instr 16 := #v[
  .rnz, .popB, .jnz w, .jmp w, .cnz w, .pushB, .adi d, .rst0,
  .rz, .ret, .jz w, .jmpAlias w, .cz w, .call w, .aci d, .rst1]

/-- Row Dx of 30_encoding.md R112. -/
def opRowD (d : Byte) (w : Word) : Vector Instr 16 := #v[
  .rnc, .popD, .jnc w, .outPort d, .cnc w, .pushD, .sui d, .rst2,
  .rc, .retAlias, .jc w, .inPort d, .cc w, .callAlias 1 w, .sbi d, .rst3]

/-- Row Ex of 30_encoding.md R112. -/
def opRowE (d : Byte) (w : Word) : Vector Instr 16 := #v[
  .rpo, .popH, .jpo w, .xthl, .cpo w, .pushH, .ani d, .rst4,
  .rpe, .pchl, .jpe w, .xchg, .cpe w, .callAlias 2 w, .xri d, .rst5]

/-- Row Fx of 30_encoding.md R112. -/
def opRowF (d : Byte) (w : Word) : Vector Instr 16 := #v[
  .rp, .popPSW, .jp w, .di, .cp w, .pushPSW, .ori d, .rst6,
  .rm, .sphl, .jm w, .ei, .cm w, .callAlias 3 w, .cpi d, .rst7]

/-- The 256 opcodes: row = high hex digit, column = low hex digit (R112). -/
def opcodeMap (d : Byte) (w : Word) : Vector (Vector Instr 16) 16 := #v[
  opRow0 d w, opRow1 d w, opRow2 d w, opRow3 d w, opRow4 d w, opRow5 d w, opRow6 d w, opRow7 d w,
  opRow8 d w, opRow9 d w, opRowA d w, opRowB d w, opRowC d w, opRowD d w, opRowE d w, opRowF d w]

/-- The instruction of opcode byte `op` with the operands `d` and `w` (R111: the decode is total). -/
def instrOf (op : Byte) (d : Byte) (w : Word) : Instr :=
  (opcodeMap d w)[(op.extractLsb' 4 4).toFin][(op.extractLsb' 0 4).toFin]

/-! ### The decoder -/

/-- Why a list of bytes is no instruction. No opcode byte is rejected (R114); only a list that is too short is. -/
inductive DecodeError where
  /-- The list is empty: there is no opcode byte. -/
  | noOpcode
  /-- The opcode byte needs more operand bytes than follow it. -/
  | missingOperand
  deriving DecidableEq, Repr

/-- The first instruction of a list of bytes, and the bytes after it (R100, R103, R104). -/
def decode : List Byte → Except DecodeError (Instr × List Byte)
  | [] => .error .noOpcode
  | op :: rest =>
    match formatOf op, rest with
    | .f1, rest => .ok (instrOf op 0#8 0#16, rest)
    | .f2, d :: rest => .ok (instrOf op d 0#16, rest)
    | .f3, lo :: hi :: rest => .ok (instrOf op 0#8 (wordOf hi lo), rest)
    | .f2, [] | .f3, [] | .f3, [_] => .error .missingOperand

/-- The three bytes whose bits, numbered from bit 0 of the first byte upward, are the low `nbits` bits of `w`; the bits
above `nbits` are 0. -/
def tableBytes (nbits w : Nat) : List Byte :=
  let v := w % 2 ^ nbits
  [BitVec.ofNat 8 v, BitVec.ofNat 8 (v / 256), BitVec.ofNat 8 (v / 65536)]

/-- The instruction the decoder reads from an opcode-table word. -/
def decodeTableWord (nbits w : Nat) : Option Instr :=
  match decode (tableBytes nbits w) with
  | .ok (i, _) => some i
  | .error _ => none

/-! ### The encoder (R100, R102, R112) -/

/-- The bytes of an instruction, in ascending addresses. -/
def encode : Instr → List Byte
  | .movBB => [0x40#8]
  | .movBC => [0x41#8]
  | .movBD => [0x42#8]
  | .movBE => [0x43#8]
  | .movBH => [0x44#8]
  | .movBL => [0x45#8]
  | .movBA => [0x47#8]
  | .movCB => [0x48#8]
  | .movCC => [0x49#8]
  | .movCD => [0x4A#8]
  | .movCE => [0x4B#8]
  | .movCH => [0x4C#8]
  | .movCL => [0x4D#8]
  | .movCA => [0x4F#8]
  | .movDB => [0x50#8]
  | .movDC => [0x51#8]
  | .movDD => [0x52#8]
  | .movDE => [0x53#8]
  | .movDH => [0x54#8]
  | .movDL => [0x55#8]
  | .movDA => [0x57#8]
  | .movEB => [0x58#8]
  | .movEC => [0x59#8]
  | .movED => [0x5A#8]
  | .movEE => [0x5B#8]
  | .movEH => [0x5C#8]
  | .movEL => [0x5D#8]
  | .movEA => [0x5F#8]
  | .movHB => [0x60#8]
  | .movHC => [0x61#8]
  | .movHD => [0x62#8]
  | .movHE => [0x63#8]
  | .movHH => [0x64#8]
  | .movHL => [0x65#8]
  | .movHA => [0x67#8]
  | .movLB => [0x68#8]
  | .movLC => [0x69#8]
  | .movLD => [0x6A#8]
  | .movLE => [0x6B#8]
  | .movLH => [0x6C#8]
  | .movLL => [0x6D#8]
  | .movLA => [0x6F#8]
  | .movAB => [0x78#8]
  | .movAC => [0x79#8]
  | .movAD => [0x7A#8]
  | .movAE => [0x7B#8]
  | .movAH => [0x7C#8]
  | .movAL => [0x7D#8]
  | .movAA => [0x7F#8]
  | .movBM => [0x46#8]
  | .movCM => [0x4E#8]
  | .movDM => [0x56#8]
  | .movEM => [0x5E#8]
  | .movHM => [0x66#8]
  | .movLM => [0x6E#8]
  | .movAM => [0x7E#8]
  | .movMB => [0x70#8]
  | .movMC => [0x71#8]
  | .movMD => [0x72#8]
  | .movME => [0x73#8]
  | .movMH => [0x74#8]
  | .movML => [0x75#8]
  | .movMA => [0x77#8]
  | .mviB d => [0x06#8, d]
  | .mviC d => [0x0E#8, d]
  | .mviD d => [0x16#8, d]
  | .mviE d => [0x1E#8, d]
  | .mviH d => [0x26#8, d]
  | .mviL d => [0x2E#8, d]
  | .mviA d => [0x3E#8, d]
  | .mviM d => [0x36#8, d]
  | .lxiB w => 0x01#8 :: wordBytes w
  | .lxiD w => 0x11#8 :: wordBytes w
  | .lxiH w => 0x21#8 :: wordBytes w
  | .lxiSP w => 0x31#8 :: wordBytes w
  | .lda w => 0x3A#8 :: wordBytes w
  | .sta w => 0x32#8 :: wordBytes w
  | .lhld w => 0x2A#8 :: wordBytes w
  | .shld w => 0x22#8 :: wordBytes w
  | .ldaxB => [0x0A#8]
  | .ldaxD => [0x1A#8]
  | .staxB => [0x02#8]
  | .staxD => [0x12#8]
  | .xchg => [0xEB#8]
  | .addB => [0x80#8]
  | .addC => [0x81#8]
  | .addD => [0x82#8]
  | .addE => [0x83#8]
  | .addH => [0x84#8]
  | .addL => [0x85#8]
  | .addM => [0x86#8]
  | .addA => [0x87#8]
  | .adcB => [0x88#8]
  | .adcC => [0x89#8]
  | .adcD => [0x8A#8]
  | .adcE => [0x8B#8]
  | .adcH => [0x8C#8]
  | .adcL => [0x8D#8]
  | .adcM => [0x8E#8]
  | .adcA => [0x8F#8]
  | .subB => [0x90#8]
  | .subC => [0x91#8]
  | .subD => [0x92#8]
  | .subE => [0x93#8]
  | .subH => [0x94#8]
  | .subL => [0x95#8]
  | .subM => [0x96#8]
  | .subA => [0x97#8]
  | .sbbB => [0x98#8]
  | .sbbC => [0x99#8]
  | .sbbD => [0x9A#8]
  | .sbbE => [0x9B#8]
  | .sbbH => [0x9C#8]
  | .sbbL => [0x9D#8]
  | .sbbM => [0x9E#8]
  | .sbbA => [0x9F#8]
  | .adi d => [0xC6#8, d]
  | .aci d => [0xCE#8, d]
  | .sui d => [0xD6#8, d]
  | .sbi d => [0xDE#8, d]
  | .inrB => [0x04#8]
  | .inrC => [0x0C#8]
  | .inrD => [0x14#8]
  | .inrE => [0x1C#8]
  | .inrH => [0x24#8]
  | .inrL => [0x2C#8]
  | .inrA => [0x3C#8]
  | .inrM => [0x34#8]
  | .dcrB => [0x05#8]
  | .dcrC => [0x0D#8]
  | .dcrD => [0x15#8]
  | .dcrE => [0x1D#8]
  | .dcrH => [0x25#8]
  | .dcrL => [0x2D#8]
  | .dcrA => [0x3D#8]
  | .dcrM => [0x35#8]
  | .inxB => [0x03#8]
  | .inxD => [0x13#8]
  | .inxH => [0x23#8]
  | .inxSP => [0x33#8]
  | .dcxB => [0x0B#8]
  | .dcxD => [0x1B#8]
  | .dcxH => [0x2B#8]
  | .dcxSP => [0x3B#8]
  | .dadB => [0x09#8]
  | .dadD => [0x19#8]
  | .dadH => [0x29#8]
  | .dadSP => [0x39#8]
  | .daa => [0x27#8]
  | .anaB => [0xA0#8]
  | .anaC => [0xA1#8]
  | .anaD => [0xA2#8]
  | .anaE => [0xA3#8]
  | .anaH => [0xA4#8]
  | .anaL => [0xA5#8]
  | .anaM => [0xA6#8]
  | .anaA => [0xA7#8]
  | .xraB => [0xA8#8]
  | .xraC => [0xA9#8]
  | .xraD => [0xAA#8]
  | .xraE => [0xAB#8]
  | .xraH => [0xAC#8]
  | .xraL => [0xAD#8]
  | .xraM => [0xAE#8]
  | .xraA => [0xAF#8]
  | .oraB => [0xB0#8]
  | .oraC => [0xB1#8]
  | .oraD => [0xB2#8]
  | .oraE => [0xB3#8]
  | .oraH => [0xB4#8]
  | .oraL => [0xB5#8]
  | .oraM => [0xB6#8]
  | .oraA => [0xB7#8]
  | .cmpB => [0xB8#8]
  | .cmpC => [0xB9#8]
  | .cmpD => [0xBA#8]
  | .cmpE => [0xBB#8]
  | .cmpH => [0xBC#8]
  | .cmpL => [0xBD#8]
  | .cmpM => [0xBE#8]
  | .cmpA => [0xBF#8]
  | .ani d => [0xE6#8, d]
  | .xri d => [0xEE#8, d]
  | .ori d => [0xF6#8, d]
  | .cpi d => [0xFE#8, d]
  | .rlc => [0x07#8]
  | .rrc => [0x0F#8]
  | .ral => [0x17#8]
  | .rar => [0x1F#8]
  | .cma => [0x2F#8]
  | .stc => [0x37#8]
  | .cmc => [0x3F#8]
  | .jmp w => 0xC3#8 :: wordBytes w
  | .jnz w => 0xC2#8 :: wordBytes w
  | .jz w => 0xCA#8 :: wordBytes w
  | .jnc w => 0xD2#8 :: wordBytes w
  | .jc w => 0xDA#8 :: wordBytes w
  | .jpo w => 0xE2#8 :: wordBytes w
  | .jpe w => 0xEA#8 :: wordBytes w
  | .jp w => 0xF2#8 :: wordBytes w
  | .jm w => 0xFA#8 :: wordBytes w
  | .call w => 0xCD#8 :: wordBytes w
  | .cnz w => 0xC4#8 :: wordBytes w
  | .cz w => 0xCC#8 :: wordBytes w
  | .cnc w => 0xD4#8 :: wordBytes w
  | .cc w => 0xDC#8 :: wordBytes w
  | .cpo w => 0xE4#8 :: wordBytes w
  | .cpe w => 0xEC#8 :: wordBytes w
  | .cp w => 0xF4#8 :: wordBytes w
  | .cm w => 0xFC#8 :: wordBytes w
  | .ret => [0xC9#8]
  | .rnz => [0xC0#8]
  | .rz => [0xC8#8]
  | .rnc => [0xD0#8]
  | .rc => [0xD8#8]
  | .rpo => [0xE0#8]
  | .rpe => [0xE8#8]
  | .rp => [0xF0#8]
  | .rm => [0xF8#8]
  | .rst0 => [0xC7#8]
  | .rst1 => [0xCF#8]
  | .rst2 => [0xD7#8]
  | .rst3 => [0xDF#8]
  | .rst4 => [0xE7#8]
  | .rst5 => [0xEF#8]
  | .rst6 => [0xF7#8]
  | .rst7 => [0xFF#8]
  | .pchl => [0xE9#8]
  | .jmpAlias w => 0xCB#8 :: wordBytes w
  | .retAlias => [0xD9#8]
  | .callAlias pp w => (0b11#2 ++ pp ++ 0b1101#4) :: wordBytes w
  | .inPort d => [0xDB#8, d]
  | .outPort d => [0xD3#8, d]
  | .nopAlias nnn => [0b00#2 ++ nnn ++ 0b000#3]
  | .pushB => [0xC5#8]
  | .pushD => [0xD5#8]
  | .pushH => [0xE5#8]
  | .pushPSW => [0xF5#8]
  | .popB => [0xC1#8]
  | .popD => [0xD1#8]
  | .popH => [0xE1#8]
  | .popPSW => [0xF1#8]
  | .xthl => [0xE3#8]
  | .sphl => [0xF9#8]
  | .ei => [0xFB#8]
  | .di => [0xF3#8]
  | .hlt => [0x76#8]
  | .nop => [0x00#8]

/-! ### Fields (R101) and the instructions they name (R102) -/

/-- `ddd` and `sss` of a register (10_state.md R20). -/
def Reg.field : Reg → BitVec 3
  | .b => 0 | .c => 1 | .d => 2 | .e => 3 | .h => 4 | .l => 5 | .a => 7

/-- `sss` of a register or memory operand (10_state.md R20). -/
def RegM.field : RegM → BitVec 3
  | .reg r => r.field
  | .mem => 6

/-- `pp` of LXI, INX, DCX, DAD (10_state.md R24). -/
def RegPair.field : RegPair → BitVec 2
  | .bc => 0 | .de => 1 | .hl => 2 | .sp => 3

/-- `pp` of PUSH and POP (10_state.md R24). -/
def StackPair.field : StackPair → BitVec 2
  | .bc => 0 | .de => 1 | .hl => 2

/-- Bit 4 of LDAX and STAX (R150, R151). -/
def IndexPair.field : IndexPair → BitVec 1
  | .bc => 0 | .de => 1

/-- `ooo` (R101). -/
def AluOp.field : AluOp → BitVec 3
  | .add => 0 | .adc => 1 | .sub => 2 | .sbb => 3 | .ana => 4 | .xra => 5 | .ora => 6 | .cmp => 7

/-- `ccc` (43_branch.md R250). -/
def Cond.field : Cond → BitVec 3
  | .nz => 0 | .z => 1 | .nc => 2 | .c => 3 | .po => 4 | .pe => 5 | .p => 6 | .m => 7

/-- `01dddsss`, destination first (R140). -/
def Instr.movOf : Reg → Reg → Instr
  | .b, .b => .movBB | .b, .c => .movBC | .b, .d => .movBD | .b, .e => .movBE | .b, .h => .movBH | .b, .l => .movBL | .b, .a => .movBA
  | .c, .b => .movCB | .c, .c => .movCC | .c, .d => .movCD | .c, .e => .movCE | .c, .h => .movCH | .c, .l => .movCL | .c, .a => .movCA
  | .d, .b => .movDB | .d, .c => .movDC | .d, .d => .movDD | .d, .e => .movDE | .d, .h => .movDH | .d, .l => .movDL | .d, .a => .movDA
  | .e, .b => .movEB | .e, .c => .movEC | .e, .d => .movED | .e, .e => .movEE | .e, .h => .movEH | .e, .l => .movEL | .e, .a => .movEA
  | .h, .b => .movHB | .h, .c => .movHC | .h, .d => .movHD | .h, .e => .movHE | .h, .h => .movHH | .h, .l => .movHL | .h, .a => .movHA
  | .l, .b => .movLB | .l, .c => .movLC | .l, .d => .movLD | .l, .e => .movLE | .l, .h => .movLH | .l, .l => .movLL | .l, .a => .movLA
  | .a, .b => .movAB | .a, .c => .movAC | .a, .d => .movAD | .a, .e => .movAE | .a, .h => .movAH | .a, .l => .movAL | .a, .a => .movAA

/-- `01ddd110` (R141). -/
def Instr.movFromMOf : Reg → Instr
  | .b => .movBM | .c => .movCM | .d => .movDM | .e => .movEM | .h => .movHM | .l => .movLM | .a => .movAM

/-- `01110sss` (R142). -/
def Instr.movToMOf : Reg → Instr
  | .b => .movMB | .c => .movMC | .d => .movMD | .e => .movME | .h => .movMH | .l => .movML | .a => .movMA

/-- `00ddd110` with its operand byte (R143). -/
def Instr.mviOf (r : Reg) (d : Byte) : Instr :=
  match r with
  | .b => .mviB d | .c => .mviC d | .d => .mviD d | .e => .mviE d | .h => .mviH d | .l => .mviL d | .a => .mviA d

/-- `00pp0001` with its operand word (R145). -/
def Instr.lxiOf (p : RegPair) (w : Word) : Instr :=
  match p with
  | .bc => .lxiB w | .de => .lxiD w | .hl => .lxiH w | .sp => .lxiSP w

/-- `000p1010` (R150). -/
def Instr.ldaxOf : IndexPair → Instr
  | .bc => .ldaxB | .de => .ldaxD

/-- `000p0010` (R151). -/
def Instr.staxOf : IndexPair → Instr
  | .bc => .staxB | .de => .staxD

/-- `00ddd100` (R183). -/
def Instr.inrOf : Reg → Instr
  | .b => .inrB | .c => .inrC | .d => .inrD | .e => .inrE | .h => .inrH | .l => .inrL | .a => .inrA

/-- `00ddd101` (R185). -/
def Instr.dcrOf : Reg → Instr
  | .b => .dcrB | .c => .dcrC | .d => .dcrD | .e => .dcrE | .h => .dcrH | .l => .dcrL | .a => .dcrA

/-- `00pp0011` (R187). -/
def Instr.inxOf : RegPair → Instr
  | .bc => .inxB | .de => .inxD | .hl => .inxH | .sp => .inxSP

/-- `00pp1011` (R188). -/
def Instr.dcxOf : RegPair → Instr
  | .bc => .dcxB | .de => .dcxD | .hl => .dcxH | .sp => .dcxSP

/-- `00pp1001` (R189). -/
def Instr.dadOf : RegPair → Instr
  | .bc => .dadB | .de => .dadD | .hl => .dadH | .sp => .dadSP

/-- `10ooosss`, the ALU group with a register or memory operand (R175 to R178, R215 to R218). -/
def Instr.aluOf : AluOp → RegM → Instr
  | .add, .reg .b => .addB | .add, .reg .c => .addC | .add, .reg .d => .addD | .add, .reg .e => .addE | .add, .reg .h => .addH | .add, .reg .l => .addL | .add, .mem => .addM | .add, .reg .a => .addA
  | .adc, .reg .b => .adcB | .adc, .reg .c => .adcC | .adc, .reg .d => .adcD | .adc, .reg .e => .adcE | .adc, .reg .h => .adcH | .adc, .reg .l => .adcL | .adc, .mem => .adcM | .adc, .reg .a => .adcA
  | .sub, .reg .b => .subB | .sub, .reg .c => .subC | .sub, .reg .d => .subD | .sub, .reg .e => .subE | .sub, .reg .h => .subH | .sub, .reg .l => .subL | .sub, .mem => .subM | .sub, .reg .a => .subA
  | .sbb, .reg .b => .sbbB | .sbb, .reg .c => .sbbC | .sbb, .reg .d => .sbbD | .sbb, .reg .e => .sbbE | .sbb, .reg .h => .sbbH | .sbb, .reg .l => .sbbL | .sbb, .mem => .sbbM | .sbb, .reg .a => .sbbA
  | .ana, .reg .b => .anaB | .ana, .reg .c => .anaC | .ana, .reg .d => .anaD | .ana, .reg .e => .anaE | .ana, .reg .h => .anaH | .ana, .reg .l => .anaL | .ana, .mem => .anaM | .ana, .reg .a => .anaA
  | .xra, .reg .b => .xraB | .xra, .reg .c => .xraC | .xra, .reg .d => .xraD | .xra, .reg .e => .xraE | .xra, .reg .h => .xraH | .xra, .reg .l => .xraL | .xra, .mem => .xraM | .xra, .reg .a => .xraA
  | .ora, .reg .b => .oraB | .ora, .reg .c => .oraC | .ora, .reg .d => .oraD | .ora, .reg .e => .oraE | .ora, .reg .h => .oraH | .ora, .reg .l => .oraL | .ora, .mem => .oraM | .ora, .reg .a => .oraA
  | .cmp, .reg .b => .cmpB | .cmp, .reg .c => .cmpC | .cmp, .reg .d => .cmpD | .cmp, .reg .e => .cmpE | .cmp, .reg .h => .cmpH | .cmp, .reg .l => .cmpL | .cmp, .mem => .cmpM | .cmp, .reg .a => .cmpA

/-- `11ooo110` with its operand byte (R179 to R182, R219 to R222). -/
def Instr.aluImmOf (op : AluOp) (d : Byte) : Instr :=
  match op with
  | .add => .adi d | .adc => .aci d | .sub => .sui d | .sbb => .sbi d | .ana => .ani d | .xra => .xri d | .ora => .ori d | .cmp => .cpi d

/-- `11ccc010` with its target (R253). -/
def Instr.jccOf (cond : Cond) (a : Word) : Instr :=
  match cond with
  | .nz => .jnz a | .z => .jz a | .nc => .jnc a | .c => .jc a | .po => .jpo a | .pe => .jpe a | .p => .jp a | .m => .jm a

/-- `11ccc100` with its target (R255). -/
def Instr.cccOf (cond : Cond) (a : Word) : Instr :=
  match cond with
  | .nz => .cnz a | .z => .cz a | .nc => .cnc a | .c => .cc a | .po => .cpo a | .pe => .cpe a | .p => .cp a | .m => .cm a

/-- `11ccc000` (R257). -/
def Instr.rccOf : Cond → Instr
  | .nz => .rnz | .z => .rz | .nc => .rnc | .c => .rc | .po => .rpo | .pe => .rpe | .p => .rp | .m => .rm

/-- `11nnn111` (R258). -/
def Instr.rstOf : Fin 8 → Instr
  | 0 => .rst0 | 1 => .rst1 | 2 => .rst2 | 3 => .rst3 | 4 => .rst4 | 5 => .rst5 | 6 => .rst6 | 7 => .rst7

/-- `11pp0101` with `pp` != 3 (R280). -/
def Instr.pushOf : StackPair → Instr
  | .bc => .pushB | .de => .pushD | .hl => .pushH

/-- `11pp0001` with `pp` != 3 (R282). -/
def Instr.popOf : StackPair → Instr
  | .bc => .popB | .de => .popD | .hl => .popH

end Sys2Proof
end

