-- ==== Sys2Proof/Config.lean ====
section
/-! DEFINITION. What the spec leaves to the machine's surroundings and the model names once: the byte an unwritten
memory cell reads as, and the free value an IN reads when the device's script is used up. The parameters of
00_scope.md R7 that a claim should range over are fields of State, not constants. -/

namespace Sys2Proof.Config

/-- What a memory address that the state does not list reads as. 10_state.md R40 states no contents at construction;
0x00 is what `clear()` leaves (20_memory.md R79). DESIGN CHOICE, unsafe: notes/assumptions/1.md. -/
def memoryFill : Byte := 0x00#8

/-- The size of the address space, 65,536 bytes (10_state.md R35). -/
def addressSpace : Nat := 0x10000

/-- The free value an `IoIn` answers with (20_memory.md R74: "a draw, one fresh byte per call"): applied to the number of
draws made before it and to the port. It has no body, so nothing can be proved of its value: notes/assumptions/4.md. -/
opaque deviceInput : Nat → Byte → Byte

end Sys2Proof.Config
end

