-- ==== Sys2Proof/Machine/Timing.lean ====
section
/-! DEFINITION. The parameter `TSTATES` of 00_scope.md R7 as plain data: a table from the opcode byte and "taken" to the
figure `step` returns, and the table of 70_reset_and_hazards.md R380, its default. A core holds its table in
`State.figures`; no rule reads a figure (R380). The figure of a conditional jump that is not taken is the parameter
`T_JCC_NOT_TAKEN`, not this table's. notes/assumptions/6.md. -/

namespace Sys2Proof.Machine

/-- The figures of one opcode. An instruction without a condition reads `taken`. -/
structure Figure where
  taken    : Nat
  notTaken : Nat
  deriving DecidableEq, Repr

/-- `TSTATES` (00_scope.md R7): row = high hex digit of the opcode, column = low hex digit, as in 30_encoding.md R112. -/
abbrev TstateTable := Vector (Vector Figure 16) 16

/-- The entry of an opcode. -/
def TstateTable.entry (t : TstateTable) (op : Byte) : Figure :=
  t[(op.extractLsb' 4 4).toFin][(op.extractLsb' 0 4).toFin]

/-- `TSTATES(opcode, taken)`. -/
def TstateTable.figure (t : TstateTable) (op : Byte) (taken : Bool) : Nat :=
  if taken then (t.entry op).taken else (t.entry op).notTaken

/-- An opcode with one figure. -/
def Figure.always (n : Nat) : Figure := ⟨n, n⟩

/-- R380, opcodes 0x00 to 0x0F. -/
def figureRow0 : Vector Figure 16 := #v[
  .always 4, .always 10, .always 7, .always 5, .always 5, .always 5, .always 7, .always 4,
  .always 4, .always 10, .always 7, .always 5, .always 5, .always 5, .always 7, .always 4]

/-- R380, opcodes 0x10 to 0x1F. -/
def figureRow1 : Vector Figure 16 := #v[
  .always 4, .always 10, .always 7, .always 5, .always 5, .always 5, .always 7, .always 4,
  .always 4, .always 10, .always 7, .always 5, .always 5, .always 5, .always 7, .always 4]

/-- R380, opcodes 0x20 to 0x2F. -/
def figureRow2 : Vector Figure 16 := #v[
  .always 4, .always 10, .always 16, .always 5, .always 5, .always 5, .always 7, .always 4,
  .always 4, .always 10, .always 16, .always 5, .always 5, .always 5, .always 7, .always 4]

/-- R380, opcodes 0x30 to 0x3F. -/
def figureRow3 : Vector Figure 16 := #v[
  .always 4, .always 10, .always 13, .always 5, .always 10, .always 10, .always 10, .always 4,
  .always 4, .always 10, .always 13, .always 5, .always 5, .always 5, .always 7, .always 4]

/-- R380, opcodes 0x40 to 0x4F. -/
def figureRow4 : Vector Figure 16 := #v[
  .always 5, .always 5, .always 5, .always 5, .always 5, .always 5, .always 7, .always 5,
  .always 5, .always 5, .always 5, .always 5, .always 5, .always 5, .always 7, .always 5]

/-- R380, opcodes 0x50 to 0x5F. -/
def figureRow5 : Vector Figure 16 := #v[
  .always 5, .always 5, .always 5, .always 5, .always 5, .always 5, .always 7, .always 5,
  .always 5, .always 5, .always 5, .always 5, .always 5, .always 5, .always 7, .always 5]

/-- R380, opcodes 0x60 to 0x6F. -/
def figureRow6 : Vector Figure 16 := #v[
  .always 5, .always 5, .always 5, .always 5, .always 5, .always 5, .always 7, .always 5,
  .always 5, .always 5, .always 5, .always 5, .always 5, .always 5, .always 7, .always 5]

/-- R380, opcodes 0x70 to 0x7F. -/
def figureRow7 : Vector Figure 16 := #v[
  .always 7, .always 7, .always 7, .always 7, .always 7, .always 7, .always 7, .always 7,
  .always 5, .always 5, .always 5, .always 5, .always 5, .always 5, .always 7, .always 5]

/-- R380, opcodes 0x80 to 0x8F. -/
def figureRow8 : Vector Figure 16 := #v[
  .always 4, .always 4, .always 4, .always 4, .always 4, .always 4, .always 7, .always 4,
  .always 4, .always 4, .always 4, .always 4, .always 4, .always 4, .always 7, .always 4]

/-- R380, opcodes 0x90 to 0x9F. -/
def figureRow9 : Vector Figure 16 := #v[
  .always 4, .always 4, .always 4, .always 4, .always 4, .always 4, .always 7, .always 4,
  .always 4, .always 4, .always 4, .always 4, .always 4, .always 4, .always 7, .always 4]

/-- R380, opcodes 0xA0 to 0xAF. -/
def figureRowA : Vector Figure 16 := #v[
  .always 4, .always 4, .always 4, .always 4, .always 4, .always 4, .always 7, .always 4,
  .always 4, .always 4, .always 4, .always 4, .always 4, .always 4, .always 7, .always 4]

/-- R380, opcodes 0xB0 to 0xBF. -/
def figureRowB : Vector Figure 16 := #v[
  .always 4, .always 4, .always 4, .always 4, .always 4, .always 4, .always 7, .always 4,
  .always 4, .always 4, .always 4, .always 4, .always 4, .always 4, .always 7, .always 4]

/-- R380, opcodes 0xC0 to 0xCF (the conditional returns and calls have two figures). -/
def figureRowC : Vector Figure 16 := #v[
  ⟨11, 5⟩, .always 10, .always 10, .always 10, ⟨17, 11⟩, .always 11, .always 7, .always 11,
  ⟨11, 5⟩, .always 10, .always 10, .always 10, ⟨17, 11⟩, .always 17, .always 7, .always 11]

/-- R380, opcodes 0xD0 to 0xDF (the conditional returns and calls have two figures). -/
def figureRowD : Vector Figure 16 := #v[
  ⟨11, 5⟩, .always 10, .always 10, .always 10, ⟨17, 11⟩, .always 11, .always 7, .always 11,
  ⟨11, 5⟩, .always 10, .always 10, .always 10, ⟨17, 11⟩, .always 17, .always 7, .always 11]

/-- R380, opcodes 0xE0 to 0xEF (the conditional returns and calls have two figures). -/
def figureRowE : Vector Figure 16 := #v[
  ⟨11, 5⟩, .always 10, .always 10, .always 18, ⟨17, 11⟩, .always 11, .always 7, .always 11,
  ⟨11, 5⟩, .always 5, .always 10, .always 4, ⟨17, 11⟩, .always 17, .always 7, .always 11]

/-- R380, opcodes 0xF0 to 0xFF (the conditional returns and calls have two figures). -/
def figureRowF : Vector Figure 16 := #v[
  ⟨11, 5⟩, .always 10, .always 10, .always 4, ⟨17, 11⟩, .always 11, .always 7, .always 11,
  ⟨11, 5⟩, .always 5, .always 10, .always 4, ⟨17, 11⟩, .always 17, .always 7, .always 11]

/-- The table of R380, the default of `TSTATES`. -/
def defaultFigures : TstateTable := #v[
  figureRow0, figureRow1, figureRow2, figureRow3, figureRow4, figureRow5, figureRow6, figureRow7,
  figureRow8, figureRow9, figureRowA, figureRowB, figureRowC, figureRowD, figureRowE, figureRowF]

end Sys2Proof.Machine
end

