-- ==== Sys2Proof/Machine/State.lean ====
section
/-! DEFINITION. The state of one Net8080 CORE as plain data, the reasons a step can stop, and the state at
construction (10_state.md; INVENTORY.md lists every field with its rule). -/

namespace Sys2Proof.Machine

/-- The direction of a bus access (20_memory.md R67). -/
inductive Direction where
  | read | write
  deriving DecidableEq, Repr

/-- The capability of a permission range (20_memory.md R68). -/
inductive Cap where
  | none | read | write | both
  deriving DecidableEq, Repr

/-- One range of the permission table, `lower <= a < upper` (10_state.md R37). -/
structure PermRange where
  lower : Nat
  upper : Nat
  cap   : Cap
  deriving DecidableEq, Repr

/-- The memory bus the core is bound to (00_scope.md R7 `MEM_VARIANT`); the ranges are in insertion order (R37). -/
inductive MemVariant where
  | plain
  | checked (ranges : List PermRange)
  deriving DecidableEq, Repr

/-- The I/O device the core is bound to (00_scope.md R7 `IoDevice`). `silent` is the source's default device, which
answers 0 to every input; `answering script` answers the bytes of the script in turn, and a free value once the script
is used up (20_memory.md R74; notes/assumptions/4.md). -/
inductive IoDevice where
  | silent
  | answering (script : List Byte)
  deriving DecidableEq, Repr

/-- The recorded I/O bus calls (20_memory.md R74 to R76). -/
inductive IoEvent where
  | input (port value : Byte)
  | output (port value : Byte)
  | inte (enabled : Bool)
  deriving DecidableEq, Repr

/-- The seven 8-bit registers (10_state.md R20); index 6 has no storage (R21). -/
structure Regs where
  b : Byte
  c : Byte
  d : Byte
  e : Byte
  h : Byte
  l : Byte
  a : Byte
  deriving DecidableEq, Repr

/-- The five flags (10_state.md R27). -/
structure Flags where
  s  : Bool
  z  : Bool
  ac : Bool
  p  : Bool
  cy : Bool
  deriving DecidableEq, Repr

/-- The memory bytes that differ from `Config.memoryFill`, at strictly rising addresses below 65536 (10_state.md R35). -/
abbrev Memory := List Host.Cell

/-- The addresses whose mark is true, strictly rising, below 65536 (10_state.md R38). -/
abbrev Marks := List Nat

/-- The whole state of one core. -/
structure State where
  /-- B, C, D, E, H, L, A (10_state.md R20). -/
  regs : Regs
  /-- S, Z, AC, P, CY (10_state.md R27). -/
  flags : Flags
  /-- The program counter (10_state.md R25). -/
  pc : Word
  /-- The stack pointer (10_state.md R26). -/
  sp : Word
  /-- `INTE`, the interrupt enable (10_state.md R32). -/
  inte : Bool
  /-- `int_pending` (10_state.md R33). -/
  intPending : Bool
  /-- `int_vector` (10_state.md R33). -/
  intVector : Word
  /-- `mem` (10_state.md R35). -/
  mem : Memory
  /-- `read_mark` (10_state.md R38). -/
  readMarks : Marks
  /-- `write_mark` (10_state.md R38). -/
  writeMarks : Marks
  /-- `MEM_VARIANT` with `ranges` (00_scope.md R7, 10_state.md R39). -/
  variant : MemVariant
  /-- `MARKING` (00_scope.md R7). -/
  marking : Bool
  /-- `TSTATES` (00_scope.md R7, 10_state.md R39, 70_reset_and_hazards.md R380). -/
  figures : TstateTable
  /-- `T_JCC_NOT_TAKEN` (00_scope.md R7). -/
  tJccNotTaken : Nat
  /-- `IoDevice` (00_scope.md R7). -/
  device : IoDevice
  /-- The figure T the last performed opcode returned (00_scope.md R10, 70_reset_and_hazards.md R380). -/
  tstates : Nat
  /-- The I/O bus calls made, oldest first (00_scope.md R10); a step appends its own. -/
  events : List IoEvent
  /-- The model's own: how many free device answers were drawn (notes/assumptions/4.md). -/
  draws : Nat
  deriving DecidableEq, Repr

/-- The three faults (60_exceptions.md R320). A fault has no next state (R321), which is safe: nothing is claimed of the
core after it. -/
inductive Fault where
  /-- Raised by `step` alone, for a latched interrupt vector above 0xFF (R322, R328). Safe. -/
  | illegalDecode (vector : Word)
  /-- Raised by a read or write the permission table denies: a fetch, an operand fetch, an instruction's access, or the
  host's own (R323). Safe. -/
  | accessViolation (address : Word) (direction : Direction)
  /-- Raised by the host's adding a range with `upper <= lower <= 0x10000`, never by a step (R324). Safe. -/
  | invalidRange (lower upper : Nat)
  deriving DecidableEq, Repr

/-- What the model declines. No step is refused. -/
inductive Refusal where
  /-- An arm of `exec` without a meaning; no arm answers it. Safe. -/
  | notModelled (mnemonic : String)
  /-- The host's `bulkLoad` past 0xFFFF, which 20_memory.md R78 says the model refuses. Safe. -/
  | bulkLoadPastTop (start length : Nat)
  /-- A range with a bound above 0x10000, which 92_eei_decisions.md D15 says the model refuses. Safe. -/
  | rangeBoundPastTop (lower upper : Nat)
  /-- Adding a range to a core bound to the plain variant, which has no permission table (10_state.md R37). Safe. -/
  | noPermissionTable
  deriving DecidableEq, Repr

/-- What a step answers. -/
abbrev Result := Host.Outcome State Fault Refusal

/-- A core right after construction (10_state.md R40): `INTE`, `int_pending` and the marks are the spec's; the registers,
flags, `pc`, `sp` and `int_vector` are unspecified there and zero here (DESIGN CHOICE, notes/assumptions/2.md); memory
lists nothing (notes/assumptions/1.md); the parameters have the defaults of 00_scope.md R7 (notes/assumptions/3.md). -/
def State.reset : State where
  regs := ⟨0, 0, 0, 0, 0, 0, 0⟩
  flags := ⟨false, false, false, false, false⟩
  pc := 0
  sp := 0
  inte := false
  intPending := false
  intVector := 0
  mem := []
  readMarks := []
  writeMarks := []
  variant := .plain
  marking := false
  figures := defaultFigures
  tJccNotTaken := 10
  device := .answering []
  tstates := 0
  events := []
  draws := 0

end Sys2Proof.Machine
end

