-- ==== Sys2Proof/Machine/Ops.lean ====
section
/-! DEFINITION. The named operations over memory, the permission table, the marks, the stack, the I/O bus and the
interrupt latch (20_memory.md, 60_exceptions.md). -/

namespace Sys2Proof.Machine

/-! ### Memory (10_state.md R35): a canonical list of the bytes that differ from the fill -/

/-- The byte at an address. -/
def Memory.read : Memory → Nat → Byte
  | [], _ => Config.memoryFill
  | (k, v) :: rest, a => if k = a then v else Memory.read rest a

/-- Store a byte, keeping the addresses rising and listing no fill byte. -/
def Memory.write : Memory → Nat → Byte → Memory
  | [], a, v => if v = Config.memoryFill then [] else [(a, v)]
  | (k, w) :: rest, a, v =>
    if k < a then (k, w) :: Memory.write rest a v
    else
      let tail := if k = a then rest else (k, w) :: rest
      if v = Config.memoryFill then tail else (a, v) :: tail

/-- Every listed address is at least `lo`, they rise strictly, none is past the address space, none holds the fill. -/
def Memory.wfFrom (lo : Nat) : Memory → Bool
  | [] => true
  | (k, v) :: rest =>
    decide (lo ≤ k) && decide (k < Config.addressSpace) && decide (v ≠ Config.memoryFill) && Memory.wfFrom (k + 1) rest

/-- The canonical form. -/
def Memory.wf (m : Memory) : Bool := m.wfFrom 0

/-! ### Marks (10_state.md R38) -/

/-- Set one mark. -/
def Marks.insert : Marks → Nat → Marks
  | [], a => [a]
  | k :: rest, a => if k < a then k :: Marks.insert rest a else if k = a then k :: rest else a :: k :: rest

/-- Is the mark of an address true? -/
def Marks.marked (m : Marks) (a : Nat) : Bool := m.contains a

/-- Every listed address is at least `lo`, they rise strictly, none is past the address space. -/
def Marks.wfFrom (lo : Nat) : Marks → Bool
  | [] => true
  | k :: rest => decide (lo ≤ k) && decide (k < Config.addressSpace) && Marks.wfFrom (k + 1) rest

/-- The canonical form. -/
def Marks.wf (m : Marks) : Bool := m.wfFrom 0

/-! ### The permission table (10_state.md R37, 20_memory.md R67 to R69) -/

/-- `lower <= a < upper`. -/
def PermRange.covers (r : PermRange) (a : Nat) : Bool := decide (r.lower ≤ a) && decide (a < r.upper)

/-- A range that can be in the table: `0 <= lower < upper <= 0x10000`. -/
def PermRange.wf (r : PermRange) : Bool := decide (r.lower < r.upper) && decide (r.upper ≤ Config.addressSpace)

/-- `Resolve(a)`: the capability of the first range that covers `a`; `None` if no range does (R67). -/
def resolve : List PermRange → Nat → Cap
  | [], _ => .none
  | r :: rest, a => if r.covers a then r.cap else resolve rest a

/-- The table of R68. -/
def Cap.permits : Cap → Direction → Bool
  | .none, .read => false | .none, .write => false
  | .read, .read => true  | .read, .write => false
  | .write, .read => false | .write, .write => true
  | .both, .read => true  | .both, .write => true

/-- May the bound memory variant be accessed at `a` in this direction (R64 to R67)? The plain variant admits everything. -/
def State.allows (s : State) (a : Word) (dir : Direction) : Bool :=
  match s.variant with
  | .plain => true
  | .checked ranges => (resolve ranges a.toNat).permits dir

/-! ### Operations that can end the step with a fault -/

/-- What an operation inside a step answers: a value and the state after it, or the fault that ends the step (R321). -/
inductive Access (α : Type) where
  | ok (value : α) (state : State)
  | fault (reason : Fault)
  deriving DecidableEq, Repr

/-- Go on with the value and the state, unless a fault ended the step. -/
def Access.andThen {α β : Type} (x : Access α) (k : α → State → Access β) : Access β :=
  match x with
  | .ok v s => k v s
  | .fault f => .fault f

/-- Go on to a whole step's answer, unless a fault ended it. -/
def Access.run {α : Type} (x : Access α) (k : α → State → Result) : Result :=
  match x with
  | .ok v s => k v s
  | .fault f => .fault f

/-- End the step with the state made from the value and the state. -/
def Access.finish {α : Type} (x : Access α) (k : α → State → State) : Result :=
  x.run fun v s => .next (k v s)

/-! ### The memory bus (20_memory.md R64, R65, R70) -/

/-- The byte stored at `a`. -/
def State.byteAt (s : State) (a : Word) : Byte := s.mem.read a.toNat

/-- The state after a read of `a` that returned: the read mark of the marking layer. -/
def State.afterRead (s : State) (a : Word) : State :=
  { s with readMarks := if s.marking then s.readMarks.insert a.toNat else s.readMarks }

/-- The state after a write to `a` that was performed: the byte and the write mark of the marking layer. -/
def State.afterWrite (s : State) (a : Word) (v : Byte) : State :=
  { s with
    mem := s.mem.write a.toNat v
    writeMarks := if s.marking then s.writeMarks.insert a.toNat else s.writeMarks }

/-- `MemRead(a, 1)` (R64). -/
def memRead (a : Word) (s : State) : Access Byte :=
  if s.allows a .read then .ok (s.byteAt a) (s.afterRead a) else .fault (.accessViolation a .read)

/-- `MemWrite(a, 1, v)` (R65). -/
def memWrite (a : Word) (v : Byte) (s : State) : Access Unit :=
  if s.allows a .write then .ok () (s.afterWrite a v) else .fault (.accessViolation a .write)

/-! ### `pc`, `sp` and `INTE` (10_state.md R25, R26, R32) -/

/-- `pc <- a`. -/
def State.setPc (s : State) (a : Word) : State := { s with pc := a }

/-- `sp <- a`. -/
def State.setSp (s : State) (a : Word) : State := { s with sp := a }

/-- `INTE <- b`. -/
def State.setInte (s : State) (b : Bool) : State := { s with inte := b }

/-! ### The figure a step returns (00_scope.md R7 `TSTATES`, 70_reset_and_hazards.md R380) -/

/-- `TSTATES(opcode, taken)` of the core. An alias opcode is performed as the documented instruction, with the same
figure (30_encoding.md R113), so the meanings ask for the documented instruction's opcode; an instruction without a
condition asks for `taken` (notes/assumptions/6.md). -/
def State.figure (s : State) (op : Byte) (taken : Bool) : Nat := s.figures.figure op taken

/-- The state with the figure the step returns. -/
def State.withT (s : State) (t : Nat) : State := { s with tstates := t }

/-! ### 16-bit transfers and the stack (20_memory.md R60, R71, R72) -/

/-- Two reads, low byte at `a`, high byte at `a + 1`. -/
def memRead16 (a : Word) (s : State) : Access Word :=
  (memRead a s).andThen fun lo s => (memRead (a + 1) s).andThen fun hi s => .ok (wordOf hi lo) s

/-- Two writes, low byte to `a`, then high byte to `a + 1`. -/
def memWrite16 (a : Word) (w : Word) (s : State) : Access Unit :=
  (memWrite a (lowByte w) s).andThen fun _ s => memWrite (a + 1) (highByte w) s

/-- `Push16(w)`: the high byte to `sp - 1`, then the low byte to `sp - 2`, then `sp` (R71). -/
def push16 (w : Word) (s : State) : Access Unit :=
  (memWrite (s.sp - 1) (highByte w) s).andThen fun _ t =>
    (memWrite (s.sp - 2) (lowByte w) t).andThen fun _ u => .ok () (u.setSp (s.sp - 2))

/-- `Pop16()`: the low byte from `sp`, the high byte from `sp + 1`, then `sp` (R72). -/
def pop16 (s : State) : Access Word :=
  (memRead16 s.sp s).andThen fun w t => .ok w (t.setSp (s.sp + 2))

/-! ### The I/O bus (20_memory.md R74 to R76) -/

/-- Record an I/O bus call. -/
def State.record (s : State) (e : IoEvent) : State := { s with events := s.events ++ [e] }

/-- `IoIn(port)` (R74): the device's byte, and the event. -/
def ioIn (port : Byte) (s : State) : Byte × State :=
  match s.device with
  | .silent => (0x00#8, s.record (.input port 0x00#8))
  | .answering (v :: rest) => (v, { s with device := .answering rest }.record (.input port v))
  | .answering [] =>
    let v := Config.deviceInput s.draws port
    (v, { s with draws := s.draws + 1 }.record (.input port v))

/-- `IoOut(port, v)` (R75). -/
def ioOut (port v : Byte) (s : State) : State := s.record (.output port v)

/-- `IoNotify(b)` (R76). -/
def ioNotify (b : Bool) (s : State) : State := s.record (.inte b)

/-! ### The interrupt latch (60_exceptions.md R326 to R331)

The hardware's only entry into a handler is a step that performs the latched opcode in place of a fetched one; nothing
is saved but what that opcode saves (R331). These are its two halves; `serviceInterrupt` in Machine/Service.lean puts
the performing of the opcode between them. The return is RET (R332). -/

/-- `requestInterrupt(vector)`: accepted only while `INTE` is true; a second request replaces the first (R326). The
second component tells whether it was accepted. -/
def requestInterrupt (vector : Nat) (s : State) : State × Bool :=
  if s.inte then ({ s with intVector := BitVec.ofNat 16 vector, intPending := true }, true) else (s, false)

/-- The opcode byte the latch injects; a vector above 0xFF raises `IllegalDecode` (R328). -/
def latchedOpcode (s : State) : Access Byte :=
  if 0x00FF#16 < s.intVector then .fault (.illegalDecode s.intVector) else .ok (lowByte s.intVector) s

/-- The latch is cleared after the injected opcode was performed (R328). -/
def State.drainLatch (s : State) : State := { s with intPending := false }

end Sys2Proof.Machine
end

