-- ==== Sys2Proof/Machine/Operands.lean ====
section
/-! DEFINITION. Operands: registers by field, pairs, the memory operand M, and the bytes fetched at `pc`
(10_state.md R20 to R24, 30_encoding.md R103 to R107). -/

namespace Sys2Proof.Machine

/-! ### Registers (10_state.md R20) -/

/-- `x[i]`. -/
def Regs.get (x : Regs) : Reg → Byte
  | .b => x.b | .c => x.c | .d => x.d | .e => x.e | .h => x.h | .l => x.l | .a => x.a

/-- `x[i] <- v`. -/
def Regs.set (x : Regs) (r : Reg) (v : Byte) : Regs :=
  match r with
  | .b => { x with b := v } | .c => { x with c := v } | .d => { x with d := v } | .e => { x with e := v }
  | .h => { x with h := v } | .l => { x with l := v } | .a => { x with a := v }

/-- `x[i]` of a state. -/
def State.getReg (s : State) (r : Reg) : Byte := s.regs.get r

/-- `x[i] <- v` of a state. -/
def State.setReg (s : State) (r : Reg) (v : Byte) : State := { s with regs := s.regs.set r v }

/-! ### Pairs (10_state.md R23, R24): the high register is the first named -/

/-- `BC = x[0] ++ x[1]`. -/
def Regs.bc (x : Regs) : Word := wordOf x.b x.c
/-- `DE = x[2] ++ x[3]`. -/
def Regs.de (x : Regs) : Word := wordOf x.d x.e
/-- `HL = x[4] ++ x[5]`. -/
def Regs.hl (x : Regs) : Word := wordOf x.h x.l

/-- `BC <- w`. -/
def Regs.setBc (x : Regs) (w : Word) : Regs := { x with b := highByte w, c := lowByte w }
/-- `DE <- w`. -/
def Regs.setDe (x : Regs) (w : Word) : Regs := { x with d := highByte w, e := lowByte w }
/-- `HL <- w`. -/
def Regs.setHl (x : Regs) (w : Word) : Regs := { x with h := highByte w, l := lowByte w }

/-- `HL`, the address of M. -/
def State.hl (s : State) : Word := s.regs.hl

/-- `Pair(p)` (R24): the fourth pair is `sp`. -/
def State.getPair (s : State) : RegPair → Word
  | .bc => s.regs.bc | .de => s.regs.de | .hl => s.regs.hl | .sp => s.sp

/-- `Pair(p) <- w` (R24). -/
def State.setPair (s : State) (p : RegPair) (w : Word) : State :=
  match p with
  | .bc => { s with regs := s.regs.setBc w }
  | .de => { s with regs := s.regs.setDe w }
  | .hl => { s with regs := s.regs.setHl w }
  | .sp => s.setSp w

/-- The pair as one of `Pair(0)` to `Pair(2)`. -/
def stackRegPair : StackPair → RegPair
  | .bc => .bc | .de => .de | .hl => .hl

/-- The pair as one of `Pair(0)`, `Pair(1)`. -/
def indexRegPair : IndexPair → RegPair
  | .bc => .bc | .de => .de

/-! ### Register access by a 3-bit field (10_state.md R22) -/

/-- `Reg8Read(i)`: index 6 reads memory at HL. -/
def reg8Read (r : RegM) (s : State) : Access Byte :=
  match r with
  | .reg r => .ok (s.getReg r) s
  | .mem => memRead s.hl s

/-- `Reg8Write(i, v)`: index 6 writes memory at HL. -/
def reg8Write (r : RegM) (v : Byte) (s : State) : Access Unit :=
  match r with
  | .reg r => .ok () (s.setReg r v)
  | .mem => memWrite s.hl v s

/-! ### Fetch (30_encoding.md R106, R107) -/

/-- `Fetch8()`: the byte at `pc`, then `pc` advances. -/
def fetch8 (s : State) : Access Byte :=
  (memRead s.pc s).andThen fun b t => .ok b (t.setPc (s.pc + 1))

/-- `Fetch16()`: two fetches, low byte first. -/
def fetch16 (s : State) : Access Word :=
  (fetch8 s).andThen fun lo t => (fetch8 t).andThen fun hi u => .ok (wordOf hi lo) u

/-- The instruction of an opcode byte, its operand bytes fetched at `pc` (R103, R104, R105). Every instruction with
operand bytes fetches them first, so that its meaning starts with `pc` past all its bytes (notes/assumptions/7.md). -/
def fetchOperands (op : Byte) (s : State) : Access Instr :=
  match formatOf op with
  | .f1 => .ok (instrOf op 0#8 0#16) s
  | .f2 => (fetch8 s).andThen fun d t => .ok (instrOf op d 0#16) t
  | .f3 => (fetch16 s).andThen fun w t => .ok (instrOf op 0#8 w) t

/-- Place bytes in memory from `a` on, wrapping, with no permission check and no mark (what a loader does, R78). -/
def State.place (s : State) : Word → List Byte → State
  | _, [] => s
  | a, v :: rest => State.place { s with mem := s.mem.write a.toNat v } (a + 1) rest

end Sys2Proof.Machine
end

