-- ==== Sys2Proof/Machine/Flags.lean ====
section
/-! DEFINITION. The flags: how results set them, the ALU primitives, the status byte and the conditions
(10_state.md R27 to R30, 41_arithmetic.md R170 to R173, 42_logical.md R210 to R213, 43_branch.md R250). -/

namespace Sys2Proof.Machine

/-! ### Sign, zero, parity (41_arithmetic.md R173) -/

/-- `PARITY[r]`: true iff `r` has an even number of 1 bits. -/
def parity (r : Byte) : Bool :=
  !(r.getLsbD 7 ^^ r.getLsbD 6 ^^ r.getLsbD 5 ^^ r.getLsbD 4 ^^ r.getLsbD 3 ^^ r.getLsbD 2 ^^ r.getLsbD 1 ^^ r.getLsbD 0)

/-- `SetSZP(r)`. -/
def Flags.setSZP (f : Flags) (r : Byte) : Flags :=
  { f with s := r.getLsbD 7, z := r == 0x00#8, p := parity r }

/-! ### The two auxiliary-carry tables (41_arithmetic.md R172) -/

/-- `k = A[3]*4 + v[3]*2 + t[3]`. -/
def acKey (a v : Byte) (t : Nat) : BitVec 3 :=
  BitVec.ofBool (a.getLsbD 3) ++ BitVec.ofBool (v.getLsbD 3) ++ BitVec.ofBool (t.testBit 3)

/-- `ADD_AC`. -/
def addAcTable : Vector Bool 8 := #v[false, false, true, false, true, false, true, true]

/-- `SUB_BORROW`. -/
def subBorrowTable : Vector Bool 8 := #v[false, true, true, true, false, false, false, true]

/-- `ADD_AC[k]`. -/
def addAc (k : BitVec 3) : Bool := addAcTable[k.toFin]

/-- `SUB_BORROW[k]`. -/
def subBorrow (k : BitVec 3) : Bool := subBorrowTable[k.toFin]

/-! ### The ALU primitives -/

/-- The flags replaced. -/
def State.setFlags (s : State) (f : Flags) : State := { s with flags := f }

/-- `A` and the flags replaced. -/
def State.withAF (s : State) (a : Byte) (f : Flags) : State := { s with regs := { s.regs with a := a }, flags := f }

/-- A flag counts 1 when true (00_scope.md R9). -/
def bit (b : Bool) : Nat := if b then 1 else 0

/-- `AluAdd(v, withCarry)` (41_arithmetic.md R170). -/
def aluAdd (v : Byte) (withCarry : Bool) (s : State) : State :=
  let t := s.regs.a.toNat + v.toNat + bit (withCarry && s.flags.cy)
  let r := BitVec.ofNat 8 t
  s.withAF r { s.flags.setSZP r with ac := addAc (acKey s.regs.a v t), cy := decide (256 ≤ t) }

/-- `AluSub(v, withCarry)` (41_arithmetic.md R171): `CY` is the borrow, `AC` the inverse of the nibble's borrow. -/
def aluSub (v : Byte) (withCarry : Bool) (s : State) : State :=
  let t := (s.regs.a.toNat + 512 - v.toNat - bit (withCarry && s.flags.cy)) % 512
  let r := BitVec.ofNat 8 t
  s.withAF r { s.flags.setSZP r with ac := !subBorrow (acKey s.regs.a v t), cy := decide (256 ≤ t) }

/-- `AluAnd(v)` (42_logical.md R210). -/
def aluAnd (v : Byte) (s : State) : State :=
  let r := s.regs.a &&& v
  s.withAF r { s.flags.setSZP r with ac := (s.regs.a ||| v).getLsbD 3, cy := false }

/-- `AluOr(v)` (42_logical.md R211). -/
def aluOr (v : Byte) (s : State) : State :=
  let r := s.regs.a ||| v
  s.withAF r { s.flags.setSZP r with ac := false, cy := false }

/-- `AluXor(v)` (42_logical.md R212). -/
def aluXor (v : Byte) (s : State) : State :=
  let r := s.regs.a ^^^ v
  s.withAF r { s.flags.setSZP r with ac := false, cy := false }

/-- `AluCmp(v)` (42_logical.md R213): a subtract whose result is not kept. -/
def aluCmp (v : Byte) (s : State) : State := (aluSub v false s).setReg .a s.regs.a

/-- The ALU operation of field `ooo` (30_encoding.md R101). -/
def aluApply : AluOp → Byte → State → State
  | .add, v, s => aluAdd v false s
  | .adc, v, s => aluAdd v true s
  | .sub, v, s => aluSub v false s
  | .sbb, v, s => aluSub v true s
  | .ana, v, s => aluAnd v s
  | .xra, v, s => aluXor v s
  | .ora, v, s => aluOr v s
  | .cmp, v, s => aluCmp v s

/-! ### Increment and decrement (41_arithmetic.md R183 to R186): CY is not touched -/

/-- The flags INR sets from its result: `AC` is the carry out of bit 3. -/
def Flags.afterInr (f : Flags) (r : Byte) : Flags := { f.setSZP r with ac := decide (r.toNat % 16 = 0) }

/-- The flags DCR sets from its result: `AC` is true when there was no borrow out of bit 3. -/
def Flags.afterDcr (f : Flags) (r : Byte) : Flags := { f.setSZP r with ac := decide (r.toNat % 16 ≠ 15) }

/-- Only `CY` changes. -/
def State.setCy (s : State) (cy : Bool) : State := s.setFlags { s.flags with cy := cy }

/-! ### The status byte (10_state.md R29, R30) -/

/-- `PackPSW()`: S Z 0 AC 0 P 1 CY. -/
def packPSW (f : Flags) : Byte :=
  BitVec.ofBool f.s ++ BitVec.ofBool f.z ++ 0#1 ++ BitVec.ofBool f.ac ++ 0#1 ++ BitVec.ofBool f.p ++ 1#1 ++ BitVec.ofBool f.cy

/-- `UnpackPSW(b)`: bits 1, 3 and 5 are ignored. -/
def unpackPSW (b : Byte) : Flags :=
  { s := b.getLsbD 7, z := b.getLsbD 6, ac := b.getLsbD 4, p := b.getLsbD 2, cy := b.getLsbD 0 }

/-! ### Conditions (43_branch.md R250) -/

/-- The flag the selector `ccc[2:1]` picks: Z, CY, P, S. -/
def Flags.select (f : Flags) : BitVec 2 → Bool := fun sel => #v[f.z, f.cy, f.p, f.s][sel.toFin]

/-- `Cond(ccc)`: the selected flag equals the direction bit `ccc[0]`. -/
def Flags.satisfies (f : Flags) (cond : Cond) : Bool :=
  f.select (cond.field.extractLsb' 1 2) == cond.field.getLsbD 0

end Sys2Proof.Machine
end

