-- ==== Sys2Proof/Machine/Arithmetic.lean ====
section
/-! DEFINITION. Arithmetic (41_arithmetic.md R175 to R190). A meaning starts with `pc` past the instruction's bytes and
takes the operand those bytes hold. -/

namespace Sys2Proof.Machine

/-! ### What the instructions share -/

/-- An ALU operation with a register or memory operand (R175 to R178, 42_logical.md R215 to R218). -/
def aluOperand (op : AluOp) (src : RegM) (s : State) : Result :=
  (reg8Read src s).finish fun v t => (aluApply op v t).withT (s.figure (0b10#2 ++ op.field ++ src.field) true)

/-- An ALU operation with an immediate operand (R179 to R182, 42_logical.md R219 to R222). -/
def aluImmediate (op : AluOp) (v : Byte) (s : State) : Result :=
  .next ((aluApply op v s).withT (s.figure (0b11#2 ++ op.field ++ 0b110#3) true))

/-- `x[ddd] + 1`, S Z AC P (R183). -/
def incrementRegister (r : Reg) (s : State) : Result :=
  let v := s.getReg r + 1
  .next (((s.setReg r v).setFlags (s.flags.afterInr v)).withT (s.figure (0b00#2 ++ r.field ++ 0b100#3) true))

/-- Read at HL, S Z AC P, write at HL (R184). -/
def incrementMemory (s : State) : Result :=
  (memRead s.hl s).run fun m t =>
    let v := m + 1
    (memWrite s.hl v (t.setFlags (t.flags.afterInr v))).finish fun _ u => u.withT (s.figure 0x34#8 true)

/-- `x[ddd] - 1`, S Z AC P (R185). -/
def decrementRegister (r : Reg) (s : State) : Result :=
  let v := s.getReg r - 1
  .next (((s.setReg r v).setFlags (s.flags.afterDcr v)).withT (s.figure (0b00#2 ++ r.field ++ 0b101#3) true))

/-- Read at HL, S Z AC P, write at HL (R186). -/
def decrementMemory (s : State) : Result :=
  (memRead s.hl s).run fun m t =>
    let v := m - 1
    (memWrite s.hl v (t.setFlags (t.flags.afterDcr v))).finish fun _ u => u.withT (s.figure 0x35#8 true)

/-- `Pair(pp) + 1`, no flag (R187). -/
def incrementPair (p : RegPair) (s : State) : Result :=
  .next ((s.setPair p (s.getPair p + 1)).withT (s.figure (0b00#2 ++ p.field ++ 0b0011#4) true))

/-- `Pair(pp) - 1`, no flag (R188). -/
def decrementPair (p : RegPair) (s : State) : Result :=
  .next ((s.setPair p (s.getPair p - 1)).withT (s.figure (0b00#2 ++ p.field ++ 0b1011#4) true))

/-- `HL <- HL + Pair(pp)`, `CY` from bit 16 (R189). -/
def addPairToHl (p : RegPair) (s : State) : Result :=
  let t := s.hl.toNat + (s.getPair p).toNat
  .next (((s.setPair .hl (BitVec.ofNat 16 t)).setCy (decide (65536 ≤ t))).withT (s.figure (0b00#2 ++ p.field ++ 0b1001#4) true))

/-- Is 0x60 added (R190: "CY or hi > 9 or (hi >= 9 and lo > 9)")? -/
def daaHighAdjust (a : Byte) (cy : Bool) : Bool :=
  let lo := a.toNat % 16
  let hi := a.toNat / 16
  cy || decide (9 < hi) || (decide (9 ≤ hi) && decide (9 < lo))

/-- `adj` of R190. -/
def daaAdjust (a : Byte) (ac cy : Bool) : Byte :=
  (if ac || decide (9 < a.toNat % 16) then 0x06#8 else 0x00#8) + (if daaHighAdjust a cy then 0x60#8 else 0x00#8)

/-- Decimal adjust (R190): `CY` after is "0x60 was added". -/
def decimalAdjust (s : State) : Result :=
  let adj := daaAdjust s.regs.a s.flags.ac s.flags.cy
  .next (((aluAdd adj false s).setCy (daaHighAdjust s.regs.a s.flags.cy)).withT (s.figure 0x27#8 true))

/-! ### The instructions -/

/-- ADD B (R175). -/
def execAddB (s : State) : Result := aluOperand .add (.reg .b) s

/-- ADD C (R175). -/
def execAddC (s : State) : Result := aluOperand .add (.reg .c) s

/-- ADD D (R175). -/
def execAddD (s : State) : Result := aluOperand .add (.reg .d) s

/-- ADD E (R175). -/
def execAddE (s : State) : Result := aluOperand .add (.reg .e) s

/-- ADD H (R175). -/
def execAddH (s : State) : Result := aluOperand .add (.reg .h) s

/-- ADD L (R175). -/
def execAddL (s : State) : Result := aluOperand .add (.reg .l) s

/-- ADD M (R175). -/
def execAddM (s : State) : Result := aluOperand .add .mem s

/-- ADD A (R175). -/
def execAddA (s : State) : Result := aluOperand .add (.reg .a) s

/-- ADC B (R176). -/
def execAdcB (s : State) : Result := aluOperand .adc (.reg .b) s

/-- ADC C (R176). -/
def execAdcC (s : State) : Result := aluOperand .adc (.reg .c) s

/-- ADC D (R176). -/
def execAdcD (s : State) : Result := aluOperand .adc (.reg .d) s

/-- ADC E (R176). -/
def execAdcE (s : State) : Result := aluOperand .adc (.reg .e) s

/-- ADC H (R176). -/
def execAdcH (s : State) : Result := aluOperand .adc (.reg .h) s

/-- ADC L (R176). -/
def execAdcL (s : State) : Result := aluOperand .adc (.reg .l) s

/-- ADC M (R176). -/
def execAdcM (s : State) : Result := aluOperand .adc .mem s

/-- ADC A (R176). -/
def execAdcA (s : State) : Result := aluOperand .adc (.reg .a) s

/-- SUB B (R177). -/
def execSubB (s : State) : Result := aluOperand .sub (.reg .b) s

/-- SUB C (R177). -/
def execSubC (s : State) : Result := aluOperand .sub (.reg .c) s

/-- SUB D (R177). -/
def execSubD (s : State) : Result := aluOperand .sub (.reg .d) s

/-- SUB E (R177). -/
def execSubE (s : State) : Result := aluOperand .sub (.reg .e) s

/-- SUB H (R177). -/
def execSubH (s : State) : Result := aluOperand .sub (.reg .h) s

/-- SUB L (R177). -/
def execSubL (s : State) : Result := aluOperand .sub (.reg .l) s

/-- SUB M (R177). -/
def execSubM (s : State) : Result := aluOperand .sub .mem s

/-- SUB A (R177). -/
def execSubA (s : State) : Result := aluOperand .sub (.reg .a) s

/-- SBB B (R178). -/
def execSbbB (s : State) : Result := aluOperand .sbb (.reg .b) s

/-- SBB C (R178). -/
def execSbbC (s : State) : Result := aluOperand .sbb (.reg .c) s

/-- SBB D (R178). -/
def execSbbD (s : State) : Result := aluOperand .sbb (.reg .d) s

/-- SBB E (R178). -/
def execSbbE (s : State) : Result := aluOperand .sbb (.reg .e) s

/-- SBB H (R178). -/
def execSbbH (s : State) : Result := aluOperand .sbb (.reg .h) s

/-- SBB L (R178). -/
def execSbbL (s : State) : Result := aluOperand .sbb (.reg .l) s

/-- SBB M (R178). -/
def execSbbM (s : State) : Result := aluOperand .sbb .mem s

/-- SBB A (R178). -/
def execSbbA (s : State) : Result := aluOperand .sbb (.reg .a) s

/-- ADI d8 (R179). -/
def execAdi (d : Byte) (s : State) : Result := aluImmediate .add d s

/-- ACI d8 (R180). -/
def execAci (d : Byte) (s : State) : Result := aluImmediate .adc d s

/-- SUI d8 (R181). -/
def execSui (d : Byte) (s : State) : Result := aluImmediate .sub d s

/-- SBI d8 (R182). -/
def execSbi (d : Byte) (s : State) : Result := aluImmediate .sbb d s

/-- INR B (R183). -/
def execInrB (s : State) : Result := incrementRegister .b s

/-- INR C (R183). -/
def execInrC (s : State) : Result := incrementRegister .c s

/-- INR D (R183). -/
def execInrD (s : State) : Result := incrementRegister .d s

/-- INR E (R183). -/
def execInrE (s : State) : Result := incrementRegister .e s

/-- INR H (R183). -/
def execInrH (s : State) : Result := incrementRegister .h s

/-- INR L (R183). -/
def execInrL (s : State) : Result := incrementRegister .l s

/-- INR A (R183). -/
def execInrA (s : State) : Result := incrementRegister .a s

/-- INR M (R184). -/
def execInrM (s : State) : Result := incrementMemory s

/-- DCR B (R185). -/
def execDcrB (s : State) : Result := decrementRegister .b s

/-- DCR C (R185). -/
def execDcrC (s : State) : Result := decrementRegister .c s

/-- DCR D (R185). -/
def execDcrD (s : State) : Result := decrementRegister .d s

/-- DCR E (R185). -/
def execDcrE (s : State) : Result := decrementRegister .e s

/-- DCR H (R185). -/
def execDcrH (s : State) : Result := decrementRegister .h s

/-- DCR L (R185). -/
def execDcrL (s : State) : Result := decrementRegister .l s

/-- DCR A (R185). -/
def execDcrA (s : State) : Result := decrementRegister .a s

/-- DCR M (R186). -/
def execDcrM (s : State) : Result := decrementMemory s

/-- INX B (R187). -/
def execInxB (s : State) : Result := incrementPair .bc s

/-- INX D (R187). -/
def execInxD (s : State) : Result := incrementPair .de s

/-- INX H (R187). -/
def execInxH (s : State) : Result := incrementPair .hl s

/-- INX SP (R187). -/
def execInxSP (s : State) : Result := incrementPair .sp s

/-- DCX B (R188). -/
def execDcxB (s : State) : Result := decrementPair .bc s

/-- DCX D (R188). -/
def execDcxD (s : State) : Result := decrementPair .de s

/-- DCX H (R188). -/
def execDcxH (s : State) : Result := decrementPair .hl s

/-- DCX SP (R188). -/
def execDcxSP (s : State) : Result := decrementPair .sp s

/-- DAD B (R189). -/
def execDadB (s : State) : Result := addPairToHl .bc s

/-- DAD D (R189). -/
def execDadD (s : State) : Result := addPairToHl .de s

/-- DAD H (R189). -/
def execDadH (s : State) : Result := addPairToHl .hl s

/-- DAD SP (R189). -/
def execDadSP (s : State) : Result := addPairToHl .sp s

/-- DAA (R190). -/
def execDaa (s : State) : Result := decimalAdjust s

end Sys2Proof.Machine
end

