-- ==== Sys2Proof/Machine/Branch.lean ====
section
/-! DEFINITION. Control transfer (43_branch.md R250 to R262). A meaning starts with `pc` past the instruction's bytes
(the return address) and takes the target those bytes hold. None touches a flag. -/

namespace Sys2Proof.Machine

/-! ### What the instructions share -/

/-- `pc <- a` with the figure `t`. -/
def jumpTo (a : Word) (t : Nat) (s : State) : Result := .next ((s.setPc a).withT t)

/-- JMP (R252). -/
def jumpAlways (a : Word) (s : State) : Result := jumpTo a (s.figure 0xC3#8 true) s

/-- Jcc (R253): the not-taken figure is the parameter `T_JCC_NOT_TAKEN`. -/
def jumpIf (cond : Cond) (a : Word) (s : State) : Result :=
  if s.flags.satisfies cond then jumpTo a (s.figure (0b11#2 ++ cond.field ++ 0b010#3) true) s
  else .next (s.withT s.tJccNotTaken)

/-- `Push16(pc); pc <- a` with the figure `t`. -/
def pushAndJump (a : Word) (t : Nat) (s : State) : Result :=
  (push16 s.pc s).finish fun _ u => (u.setPc a).withT t

/-- CALL (R254). -/
def callTo (a : Word) (s : State) : Result := pushAndJump a (s.figure 0xCD#8 true) s

/-- Ccc (R255): nothing is pushed when the condition fails. -/
def callIf (cond : Cond) (a : Word) (s : State) : Result :=
  let op := 0b11#2 ++ cond.field ++ 0b100#3
  if s.flags.satisfies cond then pushAndJump a (s.figure op true) s else .next (s.withT (s.figure op false))

/-- `pc <- Pop16()` with the figure `t`. -/
def popToPc (t : Nat) (s : State) : Result :=
  (pop16 s).finish fun w u => (u.setPc w).withT t

/-- RET (R256). -/
def returnFrom (s : State) : Result := popToPc (s.figure 0xC9#8 true) s

/-- Rcc (R257): the stack is not read when the condition fails. -/
def returnIf (cond : Cond) (s : State) : Result :=
  let op := 0b11#2 ++ cond.field ++ 0b000#3
  if s.flags.satisfies cond then popToPc (s.figure op true) s else .next (s.withT (s.figure op false))

/-- The restart address `8 * nnn` (R258). -/
def restartTarget (n : Fin 8) : Word := BitVec.ofNat 16 (8 * n.val)

/-- RST n (R258): `Push16(pc); pc <- 8 * nnn`, fetched or injected. -/
def restart (n : Fin 8) (s : State) : Result :=
  pushAndJump (restartTarget n) (s.figure (0b11#2 ++ BitVec.ofNat 3 n.val ++ 0b111#3) true) s

/-- PCHL (R259). -/
def jumpToHl (s : State) : Result := jumpTo s.hl (s.figure 0xE9#8 true) s

/-! ### The instructions -/

/-- JMP a16 (R252). -/
def execJmp (w : Word) (s : State) : Result := jumpAlways w s

/-- JNZ a16 (R253). -/
def execJnz (w : Word) (s : State) : Result := jumpIf .nz w s

/-- JZ a16 (R253). -/
def execJz (w : Word) (s : State) : Result := jumpIf .z w s

/-- JNC a16 (R253). -/
def execJnc (w : Word) (s : State) : Result := jumpIf .nc w s

/-- JC a16 (R253). -/
def execJc (w : Word) (s : State) : Result := jumpIf .c w s

/-- JPO a16 (R253). -/
def execJpo (w : Word) (s : State) : Result := jumpIf .po w s

/-- JPE a16 (R253). -/
def execJpe (w : Word) (s : State) : Result := jumpIf .pe w s

/-- JP a16 (R253). -/
def execJp (w : Word) (s : State) : Result := jumpIf .p w s

/-- JM a16 (R253). -/
def execJm (w : Word) (s : State) : Result := jumpIf .m w s

/-- CALL a16 (R254). -/
def execCall (w : Word) (s : State) : Result := callTo w s

/-- CNZ a16 (R255). -/
def execCnz (w : Word) (s : State) : Result := callIf .nz w s

/-- CZ a16 (R255). -/
def execCz (w : Word) (s : State) : Result := callIf .z w s

/-- CNC a16 (R255). -/
def execCnc (w : Word) (s : State) : Result := callIf .nc w s

/-- CC a16 (R255). -/
def execCc (w : Word) (s : State) : Result := callIf .c w s

/-- CPO a16 (R255). -/
def execCpo (w : Word) (s : State) : Result := callIf .po w s

/-- CPE a16 (R255). -/
def execCpe (w : Word) (s : State) : Result := callIf .pe w s

/-- CP a16 (R255). -/
def execCp (w : Word) (s : State) : Result := callIf .p w s

/-- CM a16 (R255). -/
def execCm (w : Word) (s : State) : Result := callIf .m w s

/-- RET (R256). -/
def execRet (s : State) : Result := returnFrom s

/-- RNZ (R257). -/
def execRnz (s : State) : Result := returnIf .nz s

/-- RZ (R257). -/
def execRz (s : State) : Result := returnIf .z s

/-- RNC (R257). -/
def execRnc (s : State) : Result := returnIf .nc s

/-- RC (R257). -/
def execRc (s : State) : Result := returnIf .c s

/-- RPO (R257). -/
def execRpo (s : State) : Result := returnIf .po s

/-- RPE (R257). -/
def execRpe (s : State) : Result := returnIf .pe s

/-- RP (R257). -/
def execRp (s : State) : Result := returnIf .p s

/-- RM (R257). -/
def execRm (s : State) : Result := returnIf .m s

/-- RST 0 (R258). -/
def execRst0 (s : State) : Result := restart 0 s

/-- RST 1 (R258). -/
def execRst1 (s : State) : Result := restart 1 s

/-- RST 2 (R258). -/
def execRst2 (s : State) : Result := restart 2 s

/-- RST 3 (R258). -/
def execRst3 (s : State) : Result := restart 3 s

/-- RST 4 (R258). -/
def execRst4 (s : State) : Result := restart 4 s

/-- RST 5 (R258). -/
def execRst5 (s : State) : Result := restart 5 s

/-- RST 6 (R258). -/
def execRst6 (s : State) : Result := restart 6 s

/-- RST 7 (R258). -/
def execRst7 (s : State) : Result := restart 7 s

/-- PCHL (R259). -/
def execPchl (s : State) : Result := jumpToHl s

/-- JMP (alias) a16 (R260). -/
def execJmpAlias (w : Word) (s : State) : Result := jumpAlways w s

/-- RET (alias) (R261). -/
def execRetAlias (s : State) : Result := returnFrom s

/-- CALL (alias) a16 (R262). -/
def execCallAlias (_ : BitVec 2) (w : Word) (s : State) : Result := callTo w s

end Sys2Proof.Machine
end

