-- ==== Sys2Proof/Machine/DataTransfer.lean ====
section
/-! DEFINITION. Data transfer (40_data_transfer.md R140 to R152). A meaning starts with `pc` past the instruction's
bytes and takes the operand those bytes hold. None touches a flag. -/

namespace Sys2Proof.Machine

/-! ### What the instructions share -/

/-- `x[ddd] <- x[sss]` (R140). -/
def movRegister (dst src : Reg) (s : State) : Result :=
  .next ((s.setReg dst (s.getReg src)).withT (s.figure (0b01#2 ++ dst.field ++ src.field) true))

/-- `x[ddd] <- MemRead(HL, 1)` (R141). -/
def movFromMemory (dst : Reg) (s : State) : Result :=
  (memRead s.hl s).finish fun v t => (t.setReg dst v).withT (s.figure (0b01#2 ++ dst.field ++ 0b110#3) true)

/-- `MemWrite(HL, 1, x[sss])` (R142). -/
def movToMemory (src : Reg) (s : State) : Result :=
  (memWrite s.hl (s.getReg src) s).finish fun _ t => t.withT (s.figure (0b01110#5 ++ src.field) true)

/-- `x[ddd] <- d` (R143). -/
def mviRegister (dst : Reg) (d : Byte) (s : State) : Result :=
  .next ((s.setReg dst d).withT (s.figure (0b00#2 ++ dst.field ++ 0b110#3) true))

/-- `MemWrite(HL, 1, d)` (R144). -/
def mviMemory (d : Byte) (s : State) : Result :=
  (memWrite s.hl d s).finish fun _ t => t.withT (s.figure 0x36#8 true)

/-- `Pair(pp) <- w` (R145). -/
def loadPairImmediate (p : RegPair) (w : Word) (s : State) : Result :=
  .next ((s.setPair p w).withT (s.figure (0b00#2 ++ p.field ++ 0b0001#4) true))

/-- `x[7] <- MemRead(a, 1)` (R146). -/
def loadDirect (a : Word) (s : State) : Result :=
  (memRead a s).finish fun v t => (t.setReg .a v).withT (s.figure 0x3A#8 true)

/-- `MemWrite(a, 1, x[7])` (R147). -/
def storeDirect (a : Word) (s : State) : Result :=
  (memWrite a (s.getReg .a) s).finish fun _ t => t.withT (s.figure 0x32#8 true)

/-- L from `a`, then H from `a + 1` (R148). -/
def loadHlDirect (a : Word) (s : State) : Result :=
  (memRead16 a s).finish fun w t => (t.setPair .hl w).withT (s.figure 0x2A#8 true)

/-- L to `a`, then H to `a + 1` (R149). -/
def storeHlDirect (a : Word) (s : State) : Result :=
  (memWrite16 a s.hl s).finish fun _ t => t.withT (s.figure 0x22#8 true)

/-- `x[7] <- MemRead(BC or DE, 1)` (R150). -/
def loadIndexed (p : IndexPair) (s : State) : Result :=
  (memRead (s.getPair (indexRegPair p)) s).finish fun v t => (t.setReg .a v).withT (s.figure (0b000#3 ++ p.field ++ 0b1010#4) true)

/-- `MemWrite(BC or DE, 1, x[7])` (R151). -/
def storeIndexed (p : IndexPair) (s : State) : Result :=
  (memWrite (s.getPair (indexRegPair p)) (s.getReg .a) s).finish fun _ t => t.withT (s.figure (0b000#3 ++ p.field ++ 0b0010#4) true)

/-- D with H, E with L (R152). -/
def exchangeHlDe (s : State) : Result :=
  .next ({ s with regs := { s.regs with d := s.regs.h, e := s.regs.l, h := s.regs.d, l := s.regs.e } }.withT (s.figure 0xEB#8 true))

/-! ### The instructions -/

/-- MOV B,B (R140). -/
def execMovBB (s : State) : Result := movRegister .b .b s

/-- MOV B,C (R140). -/
def execMovBC (s : State) : Result := movRegister .b .c s

/-- MOV B,D (R140). -/
def execMovBD (s : State) : Result := movRegister .b .d s

/-- MOV B,E (R140). -/
def execMovBE (s : State) : Result := movRegister .b .e s

/-- MOV B,H (R140). -/
def execMovBH (s : State) : Result := movRegister .b .h s

/-- MOV B,L (R140). -/
def execMovBL (s : State) : Result := movRegister .b .l s

/-- MOV B,A (R140). -/
def execMovBA (s : State) : Result := movRegister .b .a s

/-- MOV C,B (R140). -/
def execMovCB (s : State) : Result := movRegister .c .b s

/-- MOV C,C (R140). -/
def execMovCC (s : State) : Result := movRegister .c .c s

/-- MOV C,D (R140). -/
def execMovCD (s : State) : Result := movRegister .c .d s

/-- MOV C,E (R140). -/
def execMovCE (s : State) : Result := movRegister .c .e s

/-- MOV C,H (R140). -/
def execMovCH (s : State) : Result := movRegister .c .h s

/-- MOV C,L (R140). -/
def execMovCL (s : State) : Result := movRegister .c .l s

/-- MOV C,A (R140). -/
def execMovCA (s : State) : Result := movRegister .c .a s

/-- MOV D,B (R140). -/
def execMovDB (s : State) : Result := movRegister .d .b s

/-- MOV D,C (R140). -/
def execMovDC (s : State) : Result := movRegister .d .c s

/-- MOV D,D (R140). -/
def execMovDD (s : State) : Result := movRegister .d .d s

/-- MOV D,E (R140). -/
def execMovDE (s : State) : Result := movRegister .d .e s

/-- MOV D,H (R140). -/
def execMovDH (s : State) : Result := movRegister .d .h s

/-- MOV D,L (R140). -/
def execMovDL (s : State) : Result := movRegister .d .l s

/-- MOV D,A (R140). -/
def execMovDA (s : State) : Result := movRegister .d .a s

/-- MOV E,B (R140). -/
def execMovEB (s : State) : Result := movRegister .e .b s

/-- MOV E,C (R140). -/
def execMovEC (s : State) : Result := movRegister .e .c s

/-- MOV E,D (R140). -/
def execMovED (s : State) : Result := movRegister .e .d s

/-- MOV E,E (R140). -/
def execMovEE (s : State) : Result := movRegister .e .e s

/-- MOV E,H (R140). -/
def execMovEH (s : State) : Result := movRegister .e .h s

/-- MOV E,L (R140). -/
def execMovEL (s : State) : Result := movRegister .e .l s

/-- MOV E,A (R140). -/
def execMovEA (s : State) : Result := movRegister .e .a s

/-- MOV H,B (R140). -/
def execMovHB (s : State) : Result := movRegister .h .b s

/-- MOV H,C (R140). -/
def execMovHC (s : State) : Result := movRegister .h .c s

/-- MOV H,D (R140). -/
def execMovHD (s : State) : Result := movRegister .h .d s

/-- MOV H,E (R140). -/
def execMovHE (s : State) : Result := movRegister .h .e s

/-- MOV H,H (R140). -/
def execMovHH (s : State) : Result := movRegister .h .h s

/-- MOV H,L (R140). -/
def execMovHL (s : State) : Result := movRegister .h .l s

/-- MOV H,A (R140). -/
def execMovHA (s : State) : Result := movRegister .h .a s

/-- MOV L,B (R140). -/
def execMovLB (s : State) : Result := movRegister .l .b s

/-- MOV L,C (R140). -/
def execMovLC (s : State) : Result := movRegister .l .c s

/-- MOV L,D (R140). -/
def execMovLD (s : State) : Result := movRegister .l .d s

/-- MOV L,E (R140). -/
def execMovLE (s : State) : Result := movRegister .l .e s

/-- MOV L,H (R140). -/
def execMovLH (s : State) : Result := movRegister .l .h s

/-- MOV L,L (R140). -/
def execMovLL (s : State) : Result := movRegister .l .l s

/-- MOV L,A (R140). -/
def execMovLA (s : State) : Result := movRegister .l .a s

/-- MOV A,B (R140). -/
def execMovAB (s : State) : Result := movRegister .a .b s

/-- MOV A,C (R140). -/
def execMovAC (s : State) : Result := movRegister .a .c s

/-- MOV A,D (R140). -/
def execMovAD (s : State) : Result := movRegister .a .d s

/-- MOV A,E (R140). -/
def execMovAE (s : State) : Result := movRegister .a .e s

/-- MOV A,H (R140). -/
def execMovAH (s : State) : Result := movRegister .a .h s

/-- MOV A,L (R140). -/
def execMovAL (s : State) : Result := movRegister .a .l s

/-- MOV A,A (R140). -/
def execMovAA (s : State) : Result := movRegister .a .a s

/-- MOV B,M (R141). -/
def execMovBM (s : State) : Result := movFromMemory .b s

/-- MOV C,M (R141). -/
def execMovCM (s : State) : Result := movFromMemory .c s

/-- MOV D,M (R141). -/
def execMovDM (s : State) : Result := movFromMemory .d s

/-- MOV E,M (R141). -/
def execMovEM (s : State) : Result := movFromMemory .e s

/-- MOV H,M (R141). -/
def execMovHM (s : State) : Result := movFromMemory .h s

/-- MOV L,M (R141). -/
def execMovLM (s : State) : Result := movFromMemory .l s

/-- MOV A,M (R141). -/
def execMovAM (s : State) : Result := movFromMemory .a s

/-- MOV M,B (R142). -/
def execMovMB (s : State) : Result := movToMemory .b s

/-- MOV M,C (R142). -/
def execMovMC (s : State) : Result := movToMemory .c s

/-- MOV M,D (R142). -/
def execMovMD (s : State) : Result := movToMemory .d s

/-- MOV M,E (R142). -/
def execMovME (s : State) : Result := movToMemory .e s

/-- MOV M,H (R142). -/
def execMovMH (s : State) : Result := movToMemory .h s

/-- MOV M,L (R142). -/
def execMovML (s : State) : Result := movToMemory .l s

/-- MOV M,A (R142). -/
def execMovMA (s : State) : Result := movToMemory .a s

/-- MVI B,d8 (R143). -/
def execMviB (d : Byte) (s : State) : Result := mviRegister .b d s

/-- MVI C,d8 (R143). -/
def execMviC (d : Byte) (s : State) : Result := mviRegister .c d s

/-- MVI D,d8 (R143). -/
def execMviD (d : Byte) (s : State) : Result := mviRegister .d d s

/-- MVI E,d8 (R143). -/
def execMviE (d : Byte) (s : State) : Result := mviRegister .e d s

/-- MVI H,d8 (R143). -/
def execMviH (d : Byte) (s : State) : Result := mviRegister .h d s

/-- MVI L,d8 (R143). -/
def execMviL (d : Byte) (s : State) : Result := mviRegister .l d s

/-- MVI A,d8 (R143). -/
def execMviA (d : Byte) (s : State) : Result := mviRegister .a d s

/-- MVI M,d8 (R144). -/
def execMviM (d : Byte) (s : State) : Result := mviMemory d s

/-- LXI B,d16 (R145). -/
def execLxiB (w : Word) (s : State) : Result := loadPairImmediate .bc w s

/-- LXI D,d16 (R145). -/
def execLxiD (w : Word) (s : State) : Result := loadPairImmediate .de w s

/-- LXI H,d16 (R145). -/
def execLxiH (w : Word) (s : State) : Result := loadPairImmediate .hl w s

/-- LXI SP,d16 (R145). -/
def execLxiSP (w : Word) (s : State) : Result := loadPairImmediate .sp w s

/-- LDA a16 (R146). -/
def execLda (w : Word) (s : State) : Result := loadDirect w s

/-- STA a16 (R147). -/
def execSta (w : Word) (s : State) : Result := storeDirect w s

/-- LHLD a16 (R148). -/
def execLhld (w : Word) (s : State) : Result := loadHlDirect w s

/-- SHLD a16 (R149). -/
def execShld (w : Word) (s : State) : Result := storeHlDirect w s

/-- LDAX B (R150). -/
def execLdaxB (s : State) : Result := loadIndexed .bc s

/-- LDAX D (R150). -/
def execLdaxD (s : State) : Result := loadIndexed .de s

/-- STAX B (R151). -/
def execStaxB (s : State) : Result := storeIndexed .bc s

/-- STAX D (R151). -/
def execStaxD (s : State) : Result := storeIndexed .de s

/-- XCHG (R152). -/
def execXchg (s : State) : Result := exchangeHlDe s

end Sys2Proof.Machine
end

