-- ==== Sys2Proof/Machine/Logical.lean ====
section
/-! DEFINITION. Logical, compare, rotate and carry instructions (42_logical.md R215 to R229). A meaning starts with `pc`
past the instruction's bytes and takes the operand those bytes hold. -/

namespace Sys2Proof.Machine

/-! ### What the instructions share: the rotates write A and `CY`, nothing else -/

/-- The accumulator and `CY` a rotate leaves, with the figure `t`. -/
def State.rotated (s : State) (a : Byte) (cy : Bool) (t : Nat) : Result :=
  .next (((s.setReg .a a).setCy cy).withT t)

/-- RLC (R223): bit 7 to bit 0 and to `CY`. -/
def rotateLeft (s : State) : Result :=
  let c := s.regs.a.getLsbD 7
  s.rotated (s.regs.a.extractLsb' 0 7 ++ BitVec.ofBool c) c (s.figure 0x07#8 true)

/-- RRC (R224): bit 0 to bit 7 and to `CY`. -/
def rotateRight (s : State) : Result :=
  let c := s.regs.a.getLsbD 0
  s.rotated (BitVec.ofBool c ++ s.regs.a.extractLsb' 1 7) c (s.figure 0x0F#8 true)

/-- RAL (R225): old `CY` enters bit 0. -/
def rotateLeftThroughCarry (s : State) : Result :=
  s.rotated (s.regs.a.extractLsb' 0 7 ++ BitVec.ofBool s.flags.cy) (s.regs.a.getLsbD 7) (s.figure 0x17#8 true)

/-- RAR (R226): old `CY` enters bit 7. -/
def rotateRightThroughCarry (s : State) : Result :=
  s.rotated (BitVec.ofBool s.flags.cy ++ s.regs.a.extractLsb' 1 7) (s.regs.a.getLsbD 0) (s.figure 0x1F#8 true)

/-- `x[7] xor 0xFF`, no flag (R227). -/
def complementAccumulator (s : State) : Result :=
  .next ((s.setReg .a (s.regs.a ^^^ 0xFF#8)).withT (s.figure 0x2F#8 true))

/-- `CY <- true` (R228). -/
def setCarry (s : State) : Result := .next ((s.setCy true).withT (s.figure 0x37#8 true))

/-- `CY <- not CY` (R229). -/
def complementCarry (s : State) : Result := .next ((s.setCy (!s.flags.cy)).withT (s.figure 0x3F#8 true))

/-! ### The instructions -/

/-- ANA B (R215). -/
def execAnaB (s : State) : Result := aluOperand .ana (.reg .b) s

/-- ANA C (R215). -/
def execAnaC (s : State) : Result := aluOperand .ana (.reg .c) s

/-- ANA D (R215). -/
def execAnaD (s : State) : Result := aluOperand .ana (.reg .d) s

/-- ANA E (R215). -/
def execAnaE (s : State) : Result := aluOperand .ana (.reg .e) s

/-- ANA H (R215). -/
def execAnaH (s : State) : Result := aluOperand .ana (.reg .h) s

/-- ANA L (R215). -/
def execAnaL (s : State) : Result := aluOperand .ana (.reg .l) s

/-- ANA M (R215). -/
def execAnaM (s : State) : Result := aluOperand .ana .mem s

/-- ANA A (R215). -/
def execAnaA (s : State) : Result := aluOperand .ana (.reg .a) s

/-- XRA B (R216). -/
def execXraB (s : State) : Result := aluOperand .xra (.reg .b) s

/-- XRA C (R216). -/
def execXraC (s : State) : Result := aluOperand .xra (.reg .c) s

/-- XRA D (R216). -/
def execXraD (s : State) : Result := aluOperand .xra (.reg .d) s

/-- XRA E (R216). -/
def execXraE (s : State) : Result := aluOperand .xra (.reg .e) s

/-- XRA H (R216). -/
def execXraH (s : State) : Result := aluOperand .xra (.reg .h) s

/-- XRA L (R216). -/
def execXraL (s : State) : Result := aluOperand .xra (.reg .l) s

/-- XRA M (R216). -/
def execXraM (s : State) : Result := aluOperand .xra .mem s

/-- XRA A (R216). -/
def execXraA (s : State) : Result := aluOperand .xra (.reg .a) s

/-- ORA B (R217). -/
def execOraB (s : State) : Result := aluOperand .ora (.reg .b) s

/-- ORA C (R217). -/
def execOraC (s : State) : Result := aluOperand .ora (.reg .c) s

/-- ORA D (R217). -/
def execOraD (s : State) : Result := aluOperand .ora (.reg .d) s

/-- ORA E (R217). -/
def execOraE (s : State) : Result := aluOperand .ora (.reg .e) s

/-- ORA H (R217). -/
def execOraH (s : State) : Result := aluOperand .ora (.reg .h) s

/-- ORA L (R217). -/
def execOraL (s : State) : Result := aluOperand .ora (.reg .l) s

/-- ORA M (R217). -/
def execOraM (s : State) : Result := aluOperand .ora .mem s

/-- ORA A (R217). -/
def execOraA (s : State) : Result := aluOperand .ora (.reg .a) s

/-- CMP B (R218). -/
def execCmpB (s : State) : Result := aluOperand .cmp (.reg .b) s

/-- CMP C (R218). -/
def execCmpC (s : State) : Result := aluOperand .cmp (.reg .c) s

/-- CMP D (R218). -/
def execCmpD (s : State) : Result := aluOperand .cmp (.reg .d) s

/-- CMP E (R218). -/
def execCmpE (s : State) : Result := aluOperand .cmp (.reg .e) s

/-- CMP H (R218). -/
def execCmpH (s : State) : Result := aluOperand .cmp (.reg .h) s

/-- CMP L (R218). -/
def execCmpL (s : State) : Result := aluOperand .cmp (.reg .l) s

/-- CMP M (R218). -/
def execCmpM (s : State) : Result := aluOperand .cmp .mem s

/-- CMP A (R218). -/
def execCmpA (s : State) : Result := aluOperand .cmp (.reg .a) s

/-- ANI d8 (R219). -/
def execAni (d : Byte) (s : State) : Result := aluImmediate .ana d s

/-- XRI d8 (R220). -/
def execXri (d : Byte) (s : State) : Result := aluImmediate .xra d s

/-- ORI d8 (R221). -/
def execOri (d : Byte) (s : State) : Result := aluImmediate .ora d s

/-- CPI d8 (R222). -/
def execCpi (d : Byte) (s : State) : Result := aluImmediate .cmp d s

/-- RLC (R223). -/
def execRlc (s : State) : Result := rotateLeft s

/-- RRC (R224). -/
def execRrc (s : State) : Result := rotateRight s

/-- RAL (R225). -/
def execRal (s : State) : Result := rotateLeftThroughCarry s

/-- RAR (R226). -/
def execRar (s : State) : Result := rotateRightThroughCarry s

/-- CMA (R227). -/
def execCma (s : State) : Result := complementAccumulator s

/-- STC (R228). -/
def execStc (s : State) : Result := setCarry s

/-- CMC (R229). -/
def execCmc (s : State) : Result := complementCarry s

end Sys2Proof.Machine
end

