-- ==== Sys2Proof/Machine/StackIoControl.lean ====
section
/-! DEFINITION. Stack, input and output, interrupt enable, HLT and NOP (44_stack_io_control.md R280 to R292). A meaning
starts with `pc` past the instruction's bytes and takes the port those bytes hold. -/

namespace Sys2Proof.Machine

/-! ### What the instructions share -/

/-- `Push16(Pair(pp))` (R280). -/
def pushPair (p : StackPair) (s : State) : Result :=
  (push16 (s.getPair (stackRegPair p)) s).finish fun _ t => t.withT (s.figure (0b11#2 ++ p.field ++ 0b0101#4) true)

/-- `Push16(x[7] ++ PackPSW())` (R281). -/
def pushStatus (s : State) : Result :=
  (push16 (wordOf s.regs.a (packPSW s.flags)) s).finish fun _ t => t.withT (s.figure 0xF5#8 true)

/-- `Pair(pp) <- Pop16()` (R282). -/
def popPair (p : StackPair) (s : State) : Result :=
  (pop16 s).finish fun w t => (t.setPair (stackRegPair p) w).withT (s.figure (0b11#2 ++ p.field ++ 0b0001#4) true)

/-- The flags from the low byte, A from the high byte (R283). -/
def popStatus (s : State) : Result :=
  (pop16 s).finish fun w t => (t.withAF (highByte w) (unpackPSW (lowByte w))).withT (s.figure 0xF1#8 true)

/-- XTHL (R284): both reads, then both writes; `sp` stays. -/
def exchangeStackTop (s : State) : Result :=
  (memRead16 s.sp s).run fun w t =>
    (memWrite16 s.sp s.hl t).finish fun _ u => (u.setPair .hl w).withT (s.figure 0xE3#8 true)

/-- `sp <- HL` (R285). -/
def stackPointerFromHl (s : State) : Result := .next ((s.setSp s.hl).withT (s.figure 0xF9#8 true))

/-- `x[7] <- IoIn(port)` (R286). -/
def inputFrom (port : Byte) (s : State) : Result :=
  let (v, t) := ioIn port s
  .next ((t.setReg .a v).withT (s.figure 0xDB#8 true))

/-- `IoOut(port, x[7])` (R287). -/
def outputTo (port : Byte) (s : State) : Result := .next ((ioOut port (s.getReg .a) s).withT (s.figure 0xD3#8 true))

/-- `INTE <- b; IoNotify(b)` (R288, R289): the notification is made whether or not the value changed. -/
def setInterruptEnable (b : Bool) (s : State) : Result :=
  .next ((ioNotify b (s.setInte b)).withT (s.figure (if b then 0xFB#8 else 0xF3#8) true))

/-- HLT (R290): `pc` backs up by one; there is no halted state. -/
def haltBackUp (s : State) : Result := .next ((s.setPc (s.pc - 1)).withT (s.figure 0x76#8 true))

/-- NOP (R291). -/
def noOperation (s : State) : Result := .next (s.withT (s.figure 0x00#8 true))

/-! ### The instructions -/

/-- IN d8 (R286). -/
def execInPort (d : Byte) (s : State) : Result := inputFrom d s

/-- OUT d8 (R287). -/
def execOutPort (d : Byte) (s : State) : Result := outputTo d s

/-- NOP (alias) (R292). -/
def execNopAlias (_ : BitVec 3) (s : State) : Result := noOperation s

/-- PUSH B (R280). -/
def execPushB (s : State) : Result := pushPair .bc s

/-- PUSH D (R280). -/
def execPushD (s : State) : Result := pushPair .de s

/-- PUSH H (R280). -/
def execPushH (s : State) : Result := pushPair .hl s

/-- PUSH PSW (R281). -/
def execPushPSW (s : State) : Result := pushStatus s

/-- POP B (R282). -/
def execPopB (s : State) : Result := popPair .bc s

/-- POP D (R282). -/
def execPopD (s : State) : Result := popPair .de s

/-- POP H (R282). -/
def execPopH (s : State) : Result := popPair .hl s

/-- POP PSW (R283). -/
def execPopPSW (s : State) : Result := popStatus s

/-- XTHL (R284). -/
def execXthl (s : State) : Result := exchangeStackTop s

/-- SPHL (R285). -/
def execSphl (s : State) : Result := stackPointerFromHl s

/-- EI (R288). -/
def execEi (s : State) : Result := setInterruptEnable true s

/-- DI (R289). -/
def execDi (s : State) : Result := setInterruptEnable false s

/-- HLT (R290). -/
def execHlt (s : State) : Result := haltBackUp s

/-- NOP (R291). -/
def execNop (s : State) : Result := noOperation s

end Sys2Proof.Machine
end

