-- ==== Sys2Proof/Machine/Service.lean ====
section
/-! DEFINITION. The two ways a step performs an opcode: fetched (30_encoding.md R110, R111) and injected from the
interrupt latch (60_exceptions.md R328). -/

namespace Sys2Proof.Machine

/-- `Execute(op)` (R111): the operand bytes at `pc`, then the instruction's meaning. -/
def executeOpcode (op : Byte) (s : State) : Result := (fetchOperands op s).run fun i t => exec i t

/-- `op <- Fetch8(); Execute(op)` (R110). -/
def fetchExecute (s : State) : Result := (fetch8 s).run fun op t => executeOpcode op t

/-- `r` with the latch cleared in its next state. -/
def drained (r : Result) : Result :=
  match r with
  | .next t => .next t.drainLatch
  | .fault f => .fault f
  | .refused f => .refused f

/-- `ServiceInterrupt()` (R328): the latched opcode is performed with `pc` not advanced, then the latch is cleared.
`INTE` is neither tested nor written (R329). -/
def serviceInterrupt (s : State) : Result :=
  (latchedOpcode s).run fun op t => drained (executeOpcode op t)

end Sys2Proof.Machine
end

