-- ==== Sys2Proof/Machine/Step.lean ====
section
/-! DEFINITION. One step of the core (30_encoding.md R110), and the state with a given instruction placed where the next
step fetches. -/

namespace Sys2Proof.Machine

/-- `step()`: a pending interrupt is serviced before any fetch; otherwise one instruction is fetched and performed. -/
def step (s : State) : Host.Outcome State Fault Refusal :=
  if s.intPending then serviceInterrupt s else fetchExecute s

/-- `s` with the opcode-table word `w` placed at `pc`, its bits above `nbits` zero, and no interrupt latched, so that
`step` fetches it. The permission table is left as it is: under the checked variant the bytes at `pc` must be readable
for any fetch to succeed. This stands for the host's load (notes/assumptions/10.md). -/
def State.withFetchWord (s : State) (nbits w : Nat) : State :=
  { s with intPending := false }.place s.pc (tableBytes nbits w)

end Sys2Proof.Machine
end

