-- ==== Sys2Proof/Machine/Effects.lean ====
section
/-! DEFINITION. What each instruction touches, read from the spec's tables and rules and used by the claims: the flags of
10_state.md R28, the registers and `sp`, the memory accesses in the order of 20_memory.md R73, and the opcode whose figure
is returned. `exec` does not use these; the claims tie them to it. -/

namespace Sys2Proof.Machine

/-- The five flags by name (10_state.md R27). -/
inductive FlagName where
  | s | z | ac | p | cy
  deriving DecidableEq, Repr

/-- A flag by name. -/
def Flags.get (f : Flags) : FlagName → Bool
  | .s => f.s | .z => f.z | .ac => f.ac | .p => f.p | .cy => f.cy

/-- The documented opcode an opcode byte is performed as: itself but for the twelve alias opcodes (30_encoding.md R113). -/
def documentedOpcode (op : Byte) : Byte :=
  if op ∈ [0x08#8, 0x10#8, 0x18#8, 0x20#8, 0x28#8, 0x30#8, 0x38#8] then 0x00#8
  else if op = 0xCB#8 then 0xC3#8
  else if op = 0xD9#8 then 0xC9#8
  else if op ∈ [0xDD#8, 0xED#8, 0xFD#8] then 0xCD#8
  else op

/-- Is it a conditional return `11ccc000`, jump `11ccc010` or call `11ccc100` (30_encoding.md R102)? -/
def hasCondition (op : Byte) : Bool :=
  op.extractLsb' 6 2 == 0b11#2 && (op.extractLsb' 0 3 == 0b000#3 || op.extractLsb' 0 3 == 0b010#3 || op.extractLsb' 0 3 == 0b100#3)

/-- The flags an instruction writes (10_state.md R28). -/
def flagsWritten : Instr → List FlagName
  | .movBB | .movBC | .movBD | .movBE | .movBH | .movBL | .movBA | .movCB | .movCC | .movCD | .movCE | .movCH
  | .movCL | .movCA | .movDB | .movDC | .movDD | .movDE | .movDH | .movDL | .movDA | .movEB | .movEC | .movED
  | .movEE | .movEH | .movEL | .movEA | .movHB | .movHC | .movHD | .movHE | .movHH | .movHL | .movHA | .movLB
  | .movLC | .movLD | .movLE | .movLH | .movLL | .movLA | .movAB | .movAC | .movAD | .movAE | .movAH | .movAL
  | .movAA | .movBM | .movCM | .movDM | .movEM | .movHM | .movLM | .movAM | .movMB | .movMC | .movMD | .movME
  | .movMH | .movML | .movMA | .mviB _ | .mviC _ | .mviD _ | .mviE _ | .mviH _ | .mviL _ | .mviA _ | .mviM _
  | .lxiB _ | .lxiD _ | .lxiH _ | .lxiSP _ | .lda _ | .sta _ | .lhld _ | .shld _ | .ldaxB | .ldaxD | .staxB
  | .staxD | .xchg | .inxB | .inxD | .inxH | .inxSP | .dcxB | .dcxD | .dcxH | .dcxSP | .cma | .jmp _ | .jnz _
  | .jz _ | .jnc _ | .jc _ | .jpo _ | .jpe _ | .jp _ | .jm _ | .call _ | .cnz _ | .cz _ | .cnc _ | .cc _
  | .cpo _ | .cpe _ | .cp _ | .cm _ | .ret | .rnz | .rz | .rnc | .rc | .rpo | .rpe | .rp | .rm | .rst0 | .rst1
  | .rst2 | .rst3 | .rst4 | .rst5 | .rst6 | .rst7 | .pchl | .jmpAlias _ | .retAlias | .callAlias _ _
  | .inPort _ | .outPort _ | .nopAlias _ | .pushB | .pushD | .pushH | .pushPSW | .popB | .popD | .popH | .xthl
  | .sphl | .ei | .di | .hlt | .nop => []
  | .addB | .addC | .addD | .addE | .addH | .addL | .addM | .addA | .adcB | .adcC | .adcD | .adcE | .adcH
  | .adcL | .adcM | .adcA | .subB | .subC | .subD | .subE | .subH | .subL | .subM | .subA | .sbbB | .sbbC
  | .sbbD | .sbbE | .sbbH | .sbbL | .sbbM | .sbbA | .adi _ | .aci _ | .sui _ | .sbi _ | .daa | .anaB | .anaC
  | .anaD | .anaE | .anaH | .anaL | .anaM | .anaA | .xraB | .xraC | .xraD | .xraE | .xraH | .xraL | .xraM
  | .xraA | .oraB | .oraC | .oraD | .oraE | .oraH | .oraL | .oraM | .oraA | .cmpB | .cmpC | .cmpD | .cmpE
  | .cmpH | .cmpL | .cmpM | .cmpA | .ani _ | .xri _ | .ori _ | .cpi _ | .popPSW => [.s, .z, .ac, .p, .cy]
  | .inrB | .inrC | .inrD | .inrE | .inrH | .inrL | .inrA | .inrM | .dcrB | .dcrC | .dcrD | .dcrE | .dcrH
  | .dcrL | .dcrA | .dcrM => [.s, .z, .ac, .p]
  | .dadB | .dadD | .dadH | .dadSP | .rlc | .rrc | .ral | .rar | .stc | .cmc => [.cy]

/-- The flags an instruction reads (10_state.md R28). -/
def flagsRead : Instr → List FlagName
  | .movBB | .movBC | .movBD | .movBE | .movBH | .movBL | .movBA | .movCB | .movCC | .movCD | .movCE | .movCH
  | .movCL | .movCA | .movDB | .movDC | .movDD | .movDE | .movDH | .movDL | .movDA | .movEB | .movEC | .movED
  | .movEE | .movEH | .movEL | .movEA | .movHB | .movHC | .movHD | .movHE | .movHH | .movHL | .movHA | .movLB
  | .movLC | .movLD | .movLE | .movLH | .movLL | .movLA | .movAB | .movAC | .movAD | .movAE | .movAH | .movAL
  | .movAA | .movBM | .movCM | .movDM | .movEM | .movHM | .movLM | .movAM | .movMB | .movMC | .movMD | .movME
  | .movMH | .movML | .movMA | .mviB _ | .mviC _ | .mviD _ | .mviE _ | .mviH _ | .mviL _ | .mviA _ | .mviM _
  | .lxiB _ | .lxiD _ | .lxiH _ | .lxiSP _ | .lda _ | .sta _ | .lhld _ | .shld _ | .ldaxB | .ldaxD | .staxB
  | .staxD | .xchg | .addB | .addC | .addD | .addE | .addH | .addL | .addM | .addA | .subB | .subC | .subD
  | .subE | .subH | .subL | .subM | .subA | .adi _ | .sui _ | .inrB | .inrC | .inrD | .inrE | .inrH | .inrL
  | .inrA | .inrM | .dcrB | .dcrC | .dcrD | .dcrE | .dcrH | .dcrL | .dcrA | .dcrM | .inxB | .inxD | .inxH
  | .inxSP | .dcxB | .dcxD | .dcxH | .dcxSP | .dadB | .dadD | .dadH | .dadSP | .anaB | .anaC | .anaD | .anaE
  | .anaH | .anaL | .anaM | .anaA | .xraB | .xraC | .xraD | .xraE | .xraH | .xraL | .xraM | .xraA | .oraB
  | .oraC | .oraD | .oraE | .oraH | .oraL | .oraM | .oraA | .cmpB | .cmpC | .cmpD | .cmpE | .cmpH | .cmpL
  | .cmpM | .cmpA | .ani _ | .xri _ | .ori _ | .cpi _ | .rlc | .rrc | .cma | .stc | .jmp _ | .call _ | .ret
  | .rst0 | .rst1 | .rst2 | .rst3 | .rst4 | .rst5 | .rst6 | .rst7 | .pchl | .jmpAlias _ | .retAlias
  | .callAlias _ _ | .inPort _ | .outPort _ | .nopAlias _ | .pushB | .pushD | .pushH | .popB | .popD | .popH
  | .popPSW | .xthl | .sphl | .ei | .di | .hlt | .nop => []
  | .adcB | .adcC | .adcD | .adcE | .adcH | .adcL | .adcM | .adcA | .sbbB | .sbbC | .sbbD | .sbbE | .sbbH
  | .sbbL | .sbbM | .sbbA | .aci _ | .sbi _ | .ral | .rar | .cmc | .jnc _ | .jc _ | .cnc _ | .cc _ | .rnc | .rc => [.cy]
  | .daa => [.ac, .cy]
  | .jnz _ | .jz _ | .cnz _ | .cz _ | .rnz | .rz => [.z]
  | .jpo _ | .jpe _ | .cpo _ | .cpe _ | .rpo | .rpe => [.p]
  | .jp _ | .jm _ | .cp _ | .cm _ | .rp | .rm => [.s]
  | .pushPSW => [.s, .z, .ac, .p, .cy]

/-- The 8-bit registers an instruction may write, by its own rule. -/
def regsWritten : Instr → List Reg
  | .movBB | .movBC | .movBD | .movBE | .movBH | .movBL | .movBA | .movBM | .mviB _ | .inrB | .dcrB => [.b]
  | .movCB | .movCC | .movCD | .movCE | .movCH | .movCL | .movCA | .movCM | .mviC _ | .inrC | .dcrC => [.c]
  | .movDB | .movDC | .movDD | .movDE | .movDH | .movDL | .movDA | .movDM | .mviD _ | .inrD | .dcrD => [.d]
  | .movEB | .movEC | .movED | .movEE | .movEH | .movEL | .movEA | .movEM | .mviE _ | .inrE | .dcrE => [.e]
  | .movHB | .movHC | .movHD | .movHE | .movHH | .movHL | .movHA | .movHM | .mviH _ | .inrH | .dcrH => [.h]
  | .movLB | .movLC | .movLD | .movLE | .movLH | .movLL | .movLA | .movLM | .mviL _ | .inrL | .dcrL => [.l]
  | .movAB | .movAC | .movAD | .movAE | .movAH | .movAL | .movAA | .movAM | .mviA _ | .lda _ | .ldaxB | .ldaxD
  | .addB | .addC | .addD | .addE | .addH | .addL | .addM | .addA | .adcB | .adcC | .adcD | .adcE | .adcH
  | .adcL | .adcM | .adcA | .subB | .subC | .subD | .subE | .subH | .subL | .subM | .subA | .sbbB | .sbbC
  | .sbbD | .sbbE | .sbbH | .sbbL | .sbbM | .sbbA | .adi _ | .aci _ | .sui _ | .sbi _ | .inrA | .dcrA | .daa
  | .anaB | .anaC | .anaD | .anaE | .anaH | .anaL | .anaM | .anaA | .xraB | .xraC | .xraD | .xraE | .xraH
  | .xraL | .xraM | .xraA | .oraB | .oraC | .oraD | .oraE | .oraH | .oraL | .oraM | .oraA | .ani _ | .xri _
  | .ori _ | .rlc | .rrc | .ral | .rar | .cma | .inPort _ | .popPSW => [.a]
  | .movMB | .movMC | .movMD | .movME | .movMH | .movML | .movMA | .mviM _ | .lxiSP _ | .sta _ | .shld _
  | .staxB | .staxD | .inrM | .dcrM | .inxSP | .dcxSP | .cmpB | .cmpC | .cmpD | .cmpE | .cmpH | .cmpL | .cmpM
  | .cmpA | .cpi _ | .stc | .cmc | .jmp _ | .jnz _ | .jz _ | .jnc _ | .jc _ | .jpo _ | .jpe _ | .jp _ | .jm _
  | .call _ | .cnz _ | .cz _ | .cnc _ | .cc _ | .cpo _ | .cpe _ | .cp _ | .cm _ | .ret | .rnz | .rz | .rnc
  | .rc | .rpo | .rpe | .rp | .rm | .rst0 | .rst1 | .rst2 | .rst3 | .rst4 | .rst5 | .rst6 | .rst7 | .pchl
  | .jmpAlias _ | .retAlias | .callAlias _ _ | .outPort _ | .nopAlias _ | .pushB | .pushD | .pushH | .pushPSW
  | .sphl | .ei | .di | .hlt | .nop => []
  | .lxiB _ | .inxB | .dcxB | .popB => [.b, .c]
  | .lxiD _ | .inxD | .dcxD | .popD => [.d, .e]
  | .lxiH _ | .lhld _ | .inxH | .dcxH | .dadB | .dadD | .dadH | .dadSP | .popH | .xthl => [.h, .l]
  | .xchg => [.d, .e, .h, .l]

/-- May the instruction write `sp` (10_state.md R26)? -/
def writesSp : Instr → Bool
  | .movBB | .movBC | .movBD | .movBE | .movBH | .movBL | .movBA | .movCB | .movCC | .movCD | .movCE | .movCH
  | .movCL | .movCA | .movDB | .movDC | .movDD | .movDE | .movDH | .movDL | .movDA | .movEB | .movEC | .movED
  | .movEE | .movEH | .movEL | .movEA | .movHB | .movHC | .movHD | .movHE | .movHH | .movHL | .movHA | .movLB
  | .movLC | .movLD | .movLE | .movLH | .movLL | .movLA | .movAB | .movAC | .movAD | .movAE | .movAH | .movAL
  | .movAA | .movBM | .movCM | .movDM | .movEM | .movHM | .movLM | .movAM | .movMB | .movMC | .movMD | .movME
  | .movMH | .movML | .movMA | .mviB _ | .mviC _ | .mviD _ | .mviE _ | .mviH _ | .mviL _ | .mviA _ | .mviM _
  | .lxiB _ | .lxiD _ | .lxiH _ | .lda _ | .sta _ | .lhld _ | .shld _ | .ldaxB | .ldaxD | .staxB | .staxD
  | .xchg | .addB | .addC | .addD | .addE | .addH | .addL | .addM | .addA | .adcB | .adcC | .adcD | .adcE
  | .adcH | .adcL | .adcM | .adcA | .subB | .subC | .subD | .subE | .subH | .subL | .subM | .subA | .sbbB
  | .sbbC | .sbbD | .sbbE | .sbbH | .sbbL | .sbbM | .sbbA | .adi _ | .aci _ | .sui _ | .sbi _ | .inrB | .inrC
  | .inrD | .inrE | .inrH | .inrL | .inrA | .inrM | .dcrB | .dcrC | .dcrD | .dcrE | .dcrH | .dcrL | .dcrA
  | .dcrM | .inxB | .inxD | .inxH | .dcxB | .dcxD | .dcxH | .dadB | .dadD | .dadH | .dadSP | .daa | .anaB
  | .anaC | .anaD | .anaE | .anaH | .anaL | .anaM | .anaA | .xraB | .xraC | .xraD | .xraE | .xraH | .xraL
  | .xraM | .xraA | .oraB | .oraC | .oraD | .oraE | .oraH | .oraL | .oraM | .oraA | .cmpB | .cmpC | .cmpD
  | .cmpE | .cmpH | .cmpL | .cmpM | .cmpA | .ani _ | .xri _ | .ori _ | .cpi _ | .rlc | .rrc | .ral | .rar
  | .cma | .stc | .cmc | .jmp _ | .jnz _ | .jz _ | .jnc _ | .jc _ | .jpo _ | .jpe _ | .jp _ | .jm _ | .pchl
  | .jmpAlias _ | .inPort _ | .outPort _ | .nopAlias _ | .xthl | .ei | .di | .hlt | .nop => false
  | .lxiSP _ | .inxSP | .dcxSP | .call _ | .cnz _ | .cz _ | .cnc _ | .cc _ | .cpo _ | .cpe _ | .cp _ | .cm _
  | .ret | .rnz | .rz | .rnc | .rc | .rpo | .rpe | .rp | .rm | .rst0 | .rst1 | .rst2 | .rst3 | .rst4 | .rst5
  | .rst6 | .rst7 | .retAlias | .callAlias _ _ | .pushB | .pushD | .pushH | .pushPSW | .popB | .popD | .popH
  | .popPSW | .sphl => true

/-- Does the instruction call the I/O bus (20_memory.md R74 to R76)? -/
def callsIo : Instr → Bool
  | .movBB | .movBC | .movBD | .movBE | .movBH | .movBL | .movBA | .movCB | .movCC | .movCD | .movCE | .movCH
  | .movCL | .movCA | .movDB | .movDC | .movDD | .movDE | .movDH | .movDL | .movDA | .movEB | .movEC | .movED
  | .movEE | .movEH | .movEL | .movEA | .movHB | .movHC | .movHD | .movHE | .movHH | .movHL | .movHA | .movLB
  | .movLC | .movLD | .movLE | .movLH | .movLL | .movLA | .movAB | .movAC | .movAD | .movAE | .movAH | .movAL
  | .movAA | .movBM | .movCM | .movDM | .movEM | .movHM | .movLM | .movAM | .movMB | .movMC | .movMD | .movME
  | .movMH | .movML | .movMA | .mviB _ | .mviC _ | .mviD _ | .mviE _ | .mviH _ | .mviL _ | .mviA _ | .mviM _
  | .lxiB _ | .lxiD _ | .lxiH _ | .lxiSP _ | .lda _ | .sta _ | .lhld _ | .shld _ | .ldaxB | .ldaxD | .staxB
  | .staxD | .xchg | .addB | .addC | .addD | .addE | .addH | .addL | .addM | .addA | .adcB | .adcC | .adcD
  | .adcE | .adcH | .adcL | .adcM | .adcA | .subB | .subC | .subD | .subE | .subH | .subL | .subM | .subA
  | .sbbB | .sbbC | .sbbD | .sbbE | .sbbH | .sbbL | .sbbM | .sbbA | .adi _ | .aci _ | .sui _ | .sbi _ | .inrB
  | .inrC | .inrD | .inrE | .inrH | .inrL | .inrA | .inrM | .dcrB | .dcrC | .dcrD | .dcrE | .dcrH | .dcrL
  | .dcrA | .dcrM | .inxB | .inxD | .inxH | .inxSP | .dcxB | .dcxD | .dcxH | .dcxSP | .dadB | .dadD | .dadH
  | .dadSP | .daa | .anaB | .anaC | .anaD | .anaE | .anaH | .anaL | .anaM | .anaA | .xraB | .xraC | .xraD
  | .xraE | .xraH | .xraL | .xraM | .xraA | .oraB | .oraC | .oraD | .oraE | .oraH | .oraL | .oraM | .oraA
  | .cmpB | .cmpC | .cmpD | .cmpE | .cmpH | .cmpL | .cmpM | .cmpA | .ani _ | .xri _ | .ori _ | .cpi _ | .rlc
  | .rrc | .ral | .rar | .cma | .stc | .cmc | .jmp _ | .jnz _ | .jz _ | .jnc _ | .jc _ | .jpo _ | .jpe _
  | .jp _ | .jm _ | .call _ | .cnz _ | .cz _ | .cnc _ | .cc _ | .cpo _ | .cpe _ | .cp _ | .cm _ | .ret | .rnz
  | .rz | .rnc | .rc | .rpo | .rpe | .rp | .rm | .rst0 | .rst1 | .rst2 | .rst3 | .rst4 | .rst5 | .rst6 | .rst7
  | .pchl | .jmpAlias _ | .retAlias | .callAlias _ _ | .nopAlias _ | .pushB | .pushD | .pushH | .pushPSW
  | .popB | .popD | .popH | .popPSW | .xthl | .sphl | .hlt | .nop => false
  | .inPort _ | .outPort _ | .ei | .di => true

/-- The data addresses an instruction reads when performed in `s`, in order (20_memory.md R73). -/
def loadedFrom (i : Instr) (s : State) : List Word :=
  match i with
  | .movBB | .movBC | .movBD | .movBE | .movBH | .movBL | .movBA | .movCB | .movCC | .movCD | .movCE | .movCH
  | .movCL | .movCA | .movDB | .movDC | .movDD | .movDE | .movDH | .movDL | .movDA | .movEB | .movEC | .movED
  | .movEE | .movEH | .movEL | .movEA | .movHB | .movHC | .movHD | .movHE | .movHH | .movHL | .movHA | .movLB
  | .movLC | .movLD | .movLE | .movLH | .movLL | .movLA | .movAB | .movAC | .movAD | .movAE | .movAH | .movAL
  | .movAA | .movMB | .movMC | .movMD | .movME | .movMH | .movML | .movMA | .mviB _ | .mviC _ | .mviD _
  | .mviE _ | .mviH _ | .mviL _ | .mviA _ | .mviM _ | .lxiB _ | .lxiD _ | .lxiH _ | .lxiSP _ | .sta _ | .shld _
  | .staxB | .staxD | .xchg | .addB | .addC | .addD | .addE | .addH | .addL | .addA | .adcB | .adcC | .adcD
  | .adcE | .adcH | .adcL | .adcA | .subB | .subC | .subD | .subE | .subH | .subL | .subA | .sbbB | .sbbC
  | .sbbD | .sbbE | .sbbH | .sbbL | .sbbA | .adi _ | .aci _ | .sui _ | .sbi _ | .inrB | .inrC | .inrD | .inrE
  | .inrH | .inrL | .inrA | .dcrB | .dcrC | .dcrD | .dcrE | .dcrH | .dcrL | .dcrA | .inxB | .inxD | .inxH
  | .inxSP | .dcxB | .dcxD | .dcxH | .dcxSP | .dadB | .dadD | .dadH | .dadSP | .daa | .anaB | .anaC | .anaD
  | .anaE | .anaH | .anaL | .anaA | .xraB | .xraC | .xraD | .xraE | .xraH | .xraL | .xraA | .oraB | .oraC
  | .oraD | .oraE | .oraH | .oraL | .oraA | .cmpB | .cmpC | .cmpD | .cmpE | .cmpH | .cmpL | .cmpA | .ani _
  | .xri _ | .ori _ | .cpi _ | .rlc | .rrc | .ral | .rar | .cma | .stc | .cmc | .jmp _ | .jnz _ | .jz _
  | .jnc _ | .jc _ | .jpo _ | .jpe _ | .jp _ | .jm _ | .call _ | .cnz _ | .cz _ | .cnc _ | .cc _ | .cpo _
  | .cpe _ | .cp _ | .cm _ | .rst0 | .rst1 | .rst2 | .rst3 | .rst4 | .rst5 | .rst6 | .rst7 | .pchl
  | .jmpAlias _ | .callAlias _ _ | .inPort _ | .outPort _ | .nopAlias _ | .pushB | .pushD | .pushH | .pushPSW
  | .sphl | .ei | .di | .hlt | .nop => []
  | .movBM | .movCM | .movDM | .movEM | .movHM | .movLM | .movAM | .addM | .adcM | .subM | .sbbM | .inrM
  | .dcrM | .anaM | .xraM | .oraM | .cmpM => [s.hl]
  | .lda a => [a]
  | .lhld a => [a, a + 1]
  | .ldaxB => [s.regs.bc]
  | .ldaxD => [s.regs.de]
  | .ret | .retAlias | .popB | .popD | .popH | .popPSW | .xthl => [s.sp, s.sp + 1]
  | .rnz => if s.flags.satisfies .nz then [s.sp, s.sp + 1] else []
  | .rz => if s.flags.satisfies .z then [s.sp, s.sp + 1] else []
  | .rnc => if s.flags.satisfies .nc then [s.sp, s.sp + 1] else []
  | .rc => if s.flags.satisfies .c then [s.sp, s.sp + 1] else []
  | .rpo => if s.flags.satisfies .po then [s.sp, s.sp + 1] else []
  | .rpe => if s.flags.satisfies .pe then [s.sp, s.sp + 1] else []
  | .rp => if s.flags.satisfies .p then [s.sp, s.sp + 1] else []
  | .rm => if s.flags.satisfies .m then [s.sp, s.sp + 1] else []

/-- The data addresses an instruction stores to when performed in `s`, in order (20_memory.md R73). -/
def storedTo (i : Instr) (s : State) : List Word :=
  match i with
  | .movBB | .movBC | .movBD | .movBE | .movBH | .movBL | .movBA | .movCB | .movCC | .movCD | .movCE | .movCH
  | .movCL | .movCA | .movDB | .movDC | .movDD | .movDE | .movDH | .movDL | .movDA | .movEB | .movEC | .movED
  | .movEE | .movEH | .movEL | .movEA | .movHB | .movHC | .movHD | .movHE | .movHH | .movHL | .movHA | .movLB
  | .movLC | .movLD | .movLE | .movLH | .movLL | .movLA | .movAB | .movAC | .movAD | .movAE | .movAH | .movAL
  | .movAA | .movBM | .movCM | .movDM | .movEM | .movHM | .movLM | .movAM | .mviB _ | .mviC _ | .mviD _
  | .mviE _ | .mviH _ | .mviL _ | .mviA _ | .lxiB _ | .lxiD _ | .lxiH _ | .lxiSP _ | .lda _ | .lhld _ | .ldaxB
  | .ldaxD | .xchg | .addB | .addC | .addD | .addE | .addH | .addL | .addM | .addA | .adcB | .adcC | .adcD
  | .adcE | .adcH | .adcL | .adcM | .adcA | .subB | .subC | .subD | .subE | .subH | .subL | .subM | .subA
  | .sbbB | .sbbC | .sbbD | .sbbE | .sbbH | .sbbL | .sbbM | .sbbA | .adi _ | .aci _ | .sui _ | .sbi _ | .inrB
  | .inrC | .inrD | .inrE | .inrH | .inrL | .inrA | .dcrB | .dcrC | .dcrD | .dcrE | .dcrH | .dcrL | .dcrA
  | .inxB | .inxD | .inxH | .inxSP | .dcxB | .dcxD | .dcxH | .dcxSP | .dadB | .dadD | .dadH | .dadSP | .daa
  | .anaB | .anaC | .anaD | .anaE | .anaH | .anaL | .anaM | .anaA | .xraB | .xraC | .xraD | .xraE | .xraH
  | .xraL | .xraM | .xraA | .oraB | .oraC | .oraD | .oraE | .oraH | .oraL | .oraM | .oraA | .cmpB | .cmpC
  | .cmpD | .cmpE | .cmpH | .cmpL | .cmpM | .cmpA | .ani _ | .xri _ | .ori _ | .cpi _ | .rlc | .rrc | .ral
  | .rar | .cma | .stc | .cmc | .jmp _ | .jnz _ | .jz _ | .jnc _ | .jc _ | .jpo _ | .jpe _ | .jp _ | .jm _
  | .ret | .rnz | .rz | .rnc | .rc | .rpo | .rpe | .rp | .rm | .pchl | .jmpAlias _ | .retAlias | .inPort _
  | .outPort _ | .nopAlias _ | .popB | .popD | .popH | .popPSW | .sphl | .ei | .di | .hlt | .nop => []
  | .movMB | .movMC | .movMD | .movME | .movMH | .movML | .movMA | .mviM _ | .inrM | .dcrM => [s.hl]
  | .sta a => [a]
  | .shld a => [a, a + 1]
  | .staxB => [s.regs.bc]
  | .staxD => [s.regs.de]
  | .call _ | .rst0 | .rst1 | .rst2 | .rst3 | .rst4 | .rst5 | .rst6 | .rst7 | .callAlias _ _ | .pushB | .pushD
  | .pushH | .pushPSW => [s.sp - 1, s.sp - 2]
  | .cnz _ => if s.flags.satisfies .nz then [s.sp - 1, s.sp - 2] else []
  | .cz _ => if s.flags.satisfies .z then [s.sp - 1, s.sp - 2] else []
  | .cnc _ => if s.flags.satisfies .nc then [s.sp - 1, s.sp - 2] else []
  | .cc _ => if s.flags.satisfies .c then [s.sp - 1, s.sp - 2] else []
  | .cpo _ => if s.flags.satisfies .po then [s.sp - 1, s.sp - 2] else []
  | .cpe _ => if s.flags.satisfies .pe then [s.sp - 1, s.sp - 2] else []
  | .cp _ => if s.flags.satisfies .p then [s.sp - 1, s.sp - 2] else []
  | .cm _ => if s.flags.satisfies .m then [s.sp - 1, s.sp - 2] else []
  | .xthl => [s.sp, s.sp + 1]

/-- The data accesses of an instruction performed in `s`, in order: reads before writes (20_memory.md R73). -/
def dataAccesses (i : Instr) (s : State) : List (Word × Direction) :=
  (loadedFrom i s).map (·, .read) ++ (storedTo i s).map (·, .write)

/-- The first access of a list that the permission table denies. -/
def State.firstDenied (s : State) : List (Word × Direction) → Option (Word × Direction)
  | [] => none
  | x :: rest => if s.allows x.1 x.2 then s.firstDenied rest else some x

/-! ### The bytes at `pc` -/

/-- The `n` bytes from `pc` on, wrapping (20_memory.md R61). -/
def State.bytesAtPc (s : State) (n : Nat) : List Byte :=
  (List.range n).map fun k => s.byteAt (s.pc + BitVec.ofNat 16 k)

/-- The reads that fetching `n` bytes at `pc` makes, in order. -/
def State.fetchReads (s : State) (n : Nat) : List (Word × Direction) :=
  (List.range n).map fun k => (s.pc + BitVec.ofNat 16 k, .read)

/-- The state after `n` bytes were fetched at `pc`: `pc` past them, their read marks set. -/
def State.afterFetch (s : State) : Nat → State
  | 0 => s
  | n + 1 => ((s.afterRead s.pc).setPc (s.pc + 1)).afterFetch n

end Sys2Proof.Machine
end

