-- ==== Sys2Proof/Machine/HostOps.lean ====
section
/-! DEFINITION. What the host may do at the boundary between two steps (70_reset_and_hazards.md R362, R366 to R371,
20_memory.md R69, R70, R78 to R81, 60_exceptions.md R326). `step` does none of this; a run is any interleaving. -/

namespace Sys2Proof.Machine

/-! ### Registers, pairs, pc, sp (R366 to R368) -/

/-- The register or memory operand of a 3-bit index (10_state.md R20). -/
def regMOfIndex : Fin 8 → RegM
  | 0 => .reg .b | 1 => .reg .c | 2 => .reg .d | 3 => .reg .e
  | 4 => .reg .h | 5 => .reg .l | 6 => .mem | 7 => .reg .a

/-- The pair of a 2-bit index (10_state.md R24). -/
def pairOfIndex : Fin 4 → RegPair
  | 0 => .bc | 1 => .de | 2 => .hl | 3 => .sp

/-- Get by index: `Reg8Read`; index 6 is a memory access (R366). -/
def hostGetReg (i : Fin 8) (s : State) : Access Byte := reg8Read (regMOfIndex i) s

/-- Set by index: `Reg8Write`, the value masked to 8 bits (R366). -/
def hostSetReg (i : Fin 8) (v : Nat) (s : State) : Access Unit := reg8Write (regMOfIndex i) (BitVec.ofNat 8 v) s

/-- Get a pair by index (R368). -/
def hostGetPair (p : Fin 4) (s : State) : Word := s.getPair (pairOfIndex p)

/-- Set a pair by index, masked to 16 bits (R368). -/
def hostSetPair (p : Fin 4) (w : Nat) (s : State) : State := s.setPair (pairOfIndex p) (BitVec.ofNat 16 w)

/-- Set `pc`, masked to 16 bits (R367). -/
def hostSetPc (w : Nat) (s : State) : State := s.setPc (BitVec.ofNat 16 w)

/-- Set `sp`, masked to 16 bits (R367). -/
def hostSetSp (w : Nat) (s : State) : State := s.setSp (BitVec.ofNat 16 w)

/-! ### The memory bus (20_memory.md R78 to R81) -/

/-- `bulkLoad(bytes, start)`: unchecked and unmarked; a load past the top is refused (R78). -/
def bulkLoad (bytes : List Nat) (start : Nat) (s : State) : Result :=
  if Config.addressSpace < start % Config.addressSpace + bytes.length then .refused (.bulkLoadPastTop start bytes.length)
  else .next (s.place (BitVec.ofNat 16 start) (bytes.map (BitVec.ofNat 8)))

/-- `clear()`: every byte 0; table and marks untouched (R79). An unlisted byte reads as `Config.memoryFill`, 0x00, so the
memory that lists nothing is the zero memory (`clearMemory_byteAt`). -/
def clearMemory (s : State) : State := { s with mem := [] }

/-- `snapshot()`: the 65,536 bytes in address order (R80). -/
def snapshot (s : State) : List Byte := (List.range Config.addressSpace).map s.mem.read

/-- Raw `read(address)`: `MemRead` of the address mod 65536 (R81). -/
def hostRead (address : Nat) (s : State) : Access Byte := memRead (BitVec.ofNat 16 address) s

/-- Raw `write(address, byte)`: `MemWrite` of the address mod 65536 and the value mod 256 (R81). -/
def hostWrite (address v : Nat) (s : State) : Access Unit := memWrite (BitVec.ofNat 16 address) (BitVec.ofNat 8 v) s

/-- `resetMarks()`: every mark false (R70). R369 of 70_reset_and_hazards.md gives the call for the marking variant and is
silent on a core without the marking layer: there the model accepts it too, and under `State.Inv` it changes nothing
(DESIGN CHOICE, safe: notes/assumptions/12.md). -/
def resetMarks (s : State) : State := { s with readMarks := [], writeMarks := [] }

/-- Add a range at the end of the table. A bound above 0x10000 is outside the parameter's domain and refused, with no
`InvalidRange` for it (92_eei_decisions.md D15); bounds in the domain with `lower >= upper` are `InvalidRange` (R69). A
core without a permission table takes no range (DESIGN CHOICE, safe: notes/assumptions/12.md). -/
def addRange (lower upper : Nat) (cap : Cap) (s : State) : Result :=
  if Config.addressSpace < lower ∨ Config.addressSpace < upper then .refused (.rangeBoundPastTop lower upper)
  else if upper ≤ lower then .fault (.invalidRange lower upper)
  else
    match s.variant with
    | .plain => .refused .noPermissionTable
    | .checked ranges => .next { s with variant := .checked (ranges ++ [⟨lower, upper, cap⟩]) }

/-! ### The closed list of the host's moves (R371) -/

/-- One move of the host or of the device between steps. `addRange` is among them, so a range can be added at every
boundary, also after steps: the spec puts the adding before the first step (R362 (1), 10_state.md R37) and elsewhere says
only that the host can change the table (60_exceptions.md R335). DESIGN CHOICE, safe: notes/assumptions/16.md. -/
inductive HostOp where
  | getReg (i : Fin 8)
  | setReg (i : Fin 8) (v : Nat)
  | setPair (p : Fin 4) (w : Nat)
  | setPc (w : Nat)
  | setSp (w : Nat)
  | bulkLoad (bytes : List Nat) (start : Nat)
  | clear
  | read (address : Nat)
  | write (address v : Nat)
  | resetMarks
  | addRange (lower upper : Nat) (cap : Cap)
  | requestInterrupt (vector : Nat)
  deriving DecidableEq, Repr

/-- The state a host move leaves. A read is a move too: it sets a mark (R70). -/
def hostStep (op : HostOp) (s : State) : Result :=
  match op with
  | .getReg i => (hostGetReg i s).finish fun _ t => t
  | .setReg i v => (hostSetReg i v s).finish fun _ t => t
  | .setPair p w => .next (hostSetPair p w s)
  | .setPc w => .next (hostSetPc w s)
  | .setSp w => .next (hostSetSp w s)
  | .bulkLoad bytes start => bulkLoad bytes start s
  | .clear => .next (clearMemory s)
  | .read a => (hostRead a s).finish fun _ t => t
  | .write a v => (hostWrite a v s).finish fun _ t => t
  | .resetMarks => .next (resetMarks s)
  | .addRange lower upper cap => addRange lower upper cap s
  | .requestInterrupt v => .next (requestInterrupt v s).1

/-! ### Construction (00_scope.md R7, 10_state.md R40) -/

/-- The parameters of a core (00_scope.md R7): `MEM_VARIANT` with `ranges`, `MARKING`, `IoDevice`, `TSTATES` and
`T_JCC_NOT_TAKEN`; `LAUNCH` is `Launch`. -/
structure Params where
  variant      : MemVariant
  marking      : Bool
  device       : IoDevice
  figures      : TstateTable
  tJccNotTaken : Nat
  deriving DecidableEq, Repr

/-- What `LAUNCH` leaves open at construction (10_state.md R40). -/
structure Launch where
  regs      : Regs
  flags     : Flags
  pc        : Word
  sp        : Word
  intVector : Word
  mem       : Memory
  deriving DecidableEq, Repr

/-- A core as constructed: `INTE` and `int_pending` false and no mark set, everything else the launch's (R40). -/
def launch (p : Params) (l : Launch) : State :=
  { State.reset with
    regs := l.regs, flags := l.flags, pc := l.pc, sp := l.sp, intVector := l.intVector, mem := l.mem
    variant := p.variant, marking := p.marking, device := p.device, figures := p.figures, tJccNotTaken := p.tJccNotTaken }

end Sys2Proof.Machine
end

