-- ==== Sys2Proof/Safety.lean ====
section
/-! DEFINITION. What counts as a well-formed state, a reachable state and a finished run, in the terms claims use. -/

namespace Sys2Proof.Machine

/-- Every range of the permission table satisfies 10_state.md R37: `0 <= lower < upper <= 0x10000`. -/
def MemVariant.wf : MemVariant → Bool
  | .plain => true
  | .checked ranges => ranges.all PermRange.wf

/-- The invariant of a core: memory and marks in canonical form, a permission table of well-formed ranges, no mark set
unless the marking layer is present, and a request latched only while interrupts are enabled (60_exceptions.md R326,
R328: "no instruction could have cleared `INTE` in between"). -/
abbrev State.Inv (s : State) : Prop :=
  s.mem.wf = true ∧ s.readMarks.wf = true ∧ s.writeMarks.wf = true ∧ s.variant.wf = true ∧
  (s.marking = false → s.readMarks = [] ∧ s.writeMarks = []) ∧ (s.intPending = true → s.inte = true)

/-- The states a core can be in at a boundary between steps: constructed, then stepped or acted on by the host
(70_reset_and_hazards.md R362, R371). -/
inductive Reachable : State → Prop where
  | constructed (p : Params) (l : Launch) : p.variant.wf = true → l.mem.wf = true → Reachable (launch p l)
  | stepped {s t : State} : Reachable s → step s = .next t → Reachable t
  | hostActed {s t : State} (op : HostOp) : Reachable s → hostStep op s = .next t → Reachable t

/-- The end of a run by the spec's definition: nothing latched, and the next step would perform a fetched HLT
(70_reset_and_hazards.md R372). The byte is looked at without a mark (notes/assumptions/11.md). -/
def State.runEnded (s : State) : Bool := !s.intPending && s.allows s.pc .read && s.byteAt s.pc == 0x76#8

/-- `n` steps from `s` all answer a next state. -/
def SafeFor : Nat → State → Prop
  | 0, _ => True
  | n + 1, s => ∃ t, step s = .next t ∧ SafeFor n t

/-! ### The rules' own integer formulas, for claims about results -/

/-- An even number of 1 bits (41_arithmetic.md R173). -/
def evenOnes (r : Byte) : Bool := ((List.range 8).filter fun k => r.getLsbD k).length % 2 == 0

/-- The flags of a result byte in the words of 10_state.md R27, with the given `AC` and `CY`. -/
def resultFlags (r : Byte) (ac cy : Bool) : Flags :=
  { s := decide (128 ≤ r.toNat), z := decide (r.toNat = 0), ac := ac, p := evenOnes r, cy := cy }

/-- The flags of a sum `a + v + cin` (41_arithmetic.md R170, R172): `AC` is the carry out of bit 3. -/
def sumFlags (a v : Byte) (cin : Bool) : Flags :=
  resultFlags (BitVec.ofNat 8 (a.toNat + v.toNat + bit cin)) (decide (15 < a.toNat % 16 + v.toNat % 16 + bit cin))
    (decide (255 < a.toNat + v.toNat + bit cin))

/-- The difference `a - v - bin` as a byte. -/
def difference (a v : Byte) (bin : Bool) : Byte := a - v - BitVec.ofNat 8 (bit bin)

/-- The flags of a difference (41_arithmetic.md R171, R172): `AC` is true iff there is no borrow out of bit 3, `CY` is
the borrow. -/
def differenceFlags (a v : Byte) (bin : Bool) : Flags :=
  resultFlags (difference a v bin) (decide (v.toNat % 16 + bit bin ≤ a.toNat % 16))
    (decide (a.toNat < v.toNat + bit bin))

/-- The value of a register or memory operand (10_state.md R22). -/
def State.operandValue (s : State) : RegM → Byte
  | .reg r => s.getReg r
  | .mem => s.byteAt s.hl

/-- May the operand be read? A register always. -/
def State.operandReadable (s : State) : RegM → Bool
  | .reg _ => true
  | .mem => s.allows s.hl .read

/-- The state after the operand was read. -/
def State.afterOperand (s : State) : RegM → State
  | .reg _ => s
  | .mem => s.afterRead s.hl

/-- The state after both bytes of `Push16(w)` were stored and `sp` moved (20_memory.md R71). -/
def State.afterPush (s : State) (w : Word) : State :=
  ((s.afterWrite (s.sp - 1) (highByte w)).afterWrite (s.sp - 2) (lowByte w)).setSp (s.sp - 2)

/-- May both bytes of a push be stored? -/
def State.pushable (s : State) : Bool := s.allows (s.sp - 1) .write && s.allows (s.sp - 2) .write

/-- The word at `a` and `a + 1`, low byte first (20_memory.md R60). -/
def State.wordAt (s : State) (a : Word) : Word := wordOf (s.byteAt (a + 1)) (s.byteAt a)

/-- May both bytes of the word be accessed? -/
def State.allows16 (s : State) (a : Word) (dir : Direction) : Bool := s.allows a dir && s.allows (a + 1) dir

/-- The state after both bytes of the word were read. -/
def State.afterRead16 (s : State) (a : Word) : State := (s.afterRead a).afterRead (a + 1)

/-- The state after both bytes of the word were stored, low byte first. -/
def State.afterWrite16 (s : State) (a w : Word) : State := (s.afterWrite a (lowByte w)).afterWrite (a + 1) (highByte w)

/-- The state after `Pop16()` (20_memory.md R72). -/
def State.afterPop (s : State) : State := (s.afterRead16 s.sp).setSp (s.sp + 2)

/-- May both bytes of a pop be read? -/
def State.poppable (s : State) : Bool := s.allows16 s.sp .read

/-- The packed decimal of a number below 100: tens in the high nibble. -/
def packedDecimal (n : Nat) : Byte := BitVec.ofNat 8 (16 * (n / 10) + n % 10)

/-- The bytes decode to exactly the instruction, whatever follows them. -/
def Decodes (bytes : List Byte) (i : Instr) : Prop := ∀ rest, decode (bytes ++ rest) = .ok (i, rest)

/-! ### What an opcode byte performs (30_encoding.md R100, R111) -/

/-- `Execute(op)` performs `i` and reads no operand byte (format F1). -/
def PerformsF1 (op : Byte) (i : Instr) : Prop := ∀ s, executeOpcode op s = exec i s

/-- `Execute(op)` reads the operand `d8 <- Fetch8()` and performs the instruction of it (format F2). -/
def PerformsF2 (op : Byte) (i : Byte → Instr) : Prop := ∀ s, executeOpcode op s = (fetch8 s).run fun d t => exec (i d) t

/-- `Execute(op)` reads the operand `w <- Fetch16()` and performs the instruction of it (format F3). -/
def PerformsF3 (op : Byte) (i : Word → Instr) : Prop := ∀ s, executeOpcode op s = (fetch16 s).run fun w t => exec (i w) t

/-- `r` is the violation of the first of `accesses` that the permission table denies, whenever it denies one
(20_memory.md R73, 60_exceptions.md R323). -/
def FaultsAtFirstDenied (s : State) (accesses : List (Word × Direction)) (r : Result) : Prop :=
  ∀ a dir, s.firstDenied accesses = some (a, dir) → r = .fault (.accessViolation a dir)

end Sys2Proof.Machine
end

