-- ==== Sys2Proof/Certificates/Slice0/Obligations.lean ====
section
/-! DEFINITION. The statements for the provers, one `def Obligations.<Name> : Prop` each; OBLIGATIONS.json says of each
which rule of the spec it formalises. Where a statement rests on something the spec itself decided (92_eei_decisions.md
D<n>) or supplied from general knowledge (93_implementation_defined.md GK<n>), its docstring says so; every opcode byte but
0x3E, 0x47 and 0xCD is GK1. No statement rests on a value of State.reset that a log chose. "T = TSTATES (by default n)"
says that T is the figure the core's table gives the opcode, and that the table of R380 gives n. -/

open Sys2Proof Sys2Proof.Machine

/-! ### Construction and invariants -/

/-- For all parameters and every launch state, the constructed core has INTE and int_pending false, no read or write
mark at any address, and the launch's registers, flags, pc, sp, int_vector and memory and the parameters' memory
variant, marking layer, device, TSTATES and T_JCC_NOT_TAKEN; it satisfies State.Inv if the permission table and the
memory are well formed. State.reset is one such core and satisfies State.Inv. The values are the spec's decision D11;
the zeros in State.reset (logs 1, 2) are not used. -/
def Obligations.ConstructionSatisfiesInv : Prop :=
  (∀ (p : Params) (l : Launch),
    (launch p l).inte = false ∧ (launch p l).intPending = false ∧
    (∀ a, (launch p l).readMarks.marked a = false ∧ (launch p l).writeMarks.marked a = false) ∧
    (launch p l).regs = l.regs ∧ (launch p l).flags = l.flags ∧ (launch p l).pc = l.pc ∧ (launch p l).sp = l.sp ∧
    (launch p l).intVector = l.intVector ∧ (launch p l).mem = l.mem ∧ (launch p l).variant = p.variant ∧
    (launch p l).marking = p.marking ∧ (launch p l).device = p.device ∧ (launch p l).figures = p.figures ∧
    (launch p l).tJccNotTaken = p.tJccNotTaken ∧
    (p.variant.wf = true → l.mem.wf = true → (launch p l).Inv)) ∧
  (∃ p l, State.reset = launch p l) ∧ State.reset.Inv

/-- For every state s with State.Inv s, reachable or not, if step s answers next t then State.Inv t: memory and marks
stay in canonical form, every range of the permission table satisfies 0 <= lower < upper <= 0x10000, no mark is set
unless the marking layer is present, and a request is latched only while INTE is true. -/
def Obligations.StepKeepsInv : Prop :=
  ∀ s t : State, s.Inv → step s = .next t → t.Inv

/-- For every host move op and states s, t: if State.Inv s and hostStep op s answers next t then State.Inv t; and
every state reached from a construction with well-formed parameters and memory by steps and host moves in any order
satisfies State.Inv. -/
def Obligations.HostMovesKeepInv : Prop :=
  (∀ (op : HostOp) (s t : State), s.Inv → hostStep op s = .next t → t.Inv) ∧
  ∀ s : State, Reachable s → s.Inv

/-! ### Encoding, decoding, fetch -/

/-- For every well-formed instruction i, with every operand at every value, and whatever bytes follow: decode (encode
i ++ rest) is i with rest left over. -/
def Obligations.DecodeOfEncode : Prop :=
  ∀ i : Instr, i.wellFormed = true → Decodes (encode i) i

/-- Whenever decode reads an instruction i from bytes, leaving rest, i is well formed and bytes is encode i followed
by rest. -/
def Obligations.EncodeOfDecode : Prop :=
  ∀ (bytes : List Byte) (i : Instr) (rest : List Byte),
    decode bytes = .ok (i, rest) → i.wellFormed = true ∧ bytes = encode i ++ rest

/-- Every opcode byte with two more bytes after it decodes to an instruction, consuming as many bytes as the patterns
of the length rule say; of the 256 opcodes 30 have length 3, 18 have length 2 and 208 have length 1. The length rule
is marked derived by the spec. -/
def Obligations.LengthsByOpcode : Prop :=
  (∀ (op d e : Byte) (rest : List Byte), ∃ i,
    decode (op :: d :: e :: rest) = .ok (i, (op :: d :: e :: rest).drop (formatLength (formatOf op)))) ∧
  ((List.range 256).filter fun n => formatLength (formatOf (BitVec.ofNat 8 n)) == 3).length = 30 ∧
  ((List.range 256).filter fun n => formatLength (formatOf (BitVec.ofNat 8 n)) == 2).length = 18 ∧
  ((List.range 256).filter fun n => formatLength (formatOf (BitVec.ofNat 8 n)) == 1).length = 208

/-- Formalises R114. For each of the 256 opcode bytes, Execute(op) answers a next state in every state that denies no
access; it never raises IllegalDecode; and a step that fetches its opcode never raises IllegalDecode. -/
def Obligations.EveryOpcodeBytePerforms : Prop :=
  (∀ (op : Byte) (s : State), (∀ a dir, s.allows a dir = true) → ∃ t, executeOpcode op s = .next t) ∧
  (∀ (op : Byte) (s : State) (v : Word), executeOpcode op s ≠ .fault (.illegalDecode v)) ∧
  ∀ (s : State) (v : Word), s.intPending = false → step s ≠ .fault (.illegalDecode v)

/-- Sixteen byte strings written from the opcode map (0x47, 0x3E and 0xCD are the source's own) decode to MOV B,A; MVI
A,0x42; CALL 0x0200; LXI H,0x1234; ADD M; ADI 0xFF; DAA; ANA A; RAR; JZ 0x0300; RST 7; POP PSW; IN 0x10; HLT; the NOP
alias 0x38; the CALL alias 0xFD. -/
def Obligations.OpcodeWordsDecode : Prop :=
  decode [0x47#8] = .ok (.movBA, []) ∧ decode [0x3E#8, 0x42#8] = .ok (.mviA 0x42#8, []) ∧
  decode [0xCD#8, 0x00#8, 0x02#8] = .ok (.call 0x0200#16, []) ∧ decode [0x21#8, 0x34#8, 0x12#8] = .ok (.lxiH 0x1234#16, []) ∧
  decode [0x86#8] = .ok (.addM, []) ∧ decode [0xC6#8, 0xFF#8] = .ok (.adi 0xFF#8, []) ∧ decode [0x27#8] = .ok (.daa, []) ∧
  decode [0xA7#8] = .ok (.anaA, []) ∧ decode [0x1F#8] = .ok (.rar, []) ∧ decode [0xCA#8, 0x00#8, 0x03#8] = .ok (.jz 0x0300#16, []) ∧
  decode [0xFF#8] = .ok (.rst7, []) ∧ decode [0xF1#8] = .ok (.popPSW, []) ∧ decode [0xDB#8, 0x10#8] = .ok (.inPort 0x10#8, []) ∧
  decode [0x76#8] = .ok (.hlt, []) ∧ decode [0x38#8] = .ok (.nopAlias 7#3, []) ∧
  decode [0xFD#8, 0x34#8, 0x12#8] = .ok (.callAlias 3#2 0x1234#16, [])

/-- If int_pending is false and the n bytes at pc, pc+1, ... (wrapping) decode to exactly i, then when all n reads are
allowed step s is exec i at the state with pc advanced by n and the n read marks set, and otherwise step s is the
access violation of the first denied read. -/
def Obligations.StepRunsDecodedInstruction : Prop :=
  ∀ (s : State) (n : Nat) (i : Instr), s.intPending = false → decode (s.bytesAtPc n) = .ok (i, []) →
    (s.firstDenied (s.fetchReads n) = none → step s = exec i (s.afterFetch n)) ∧
    FaultsAtFirstDenied s (s.fetchReads n) (step s)

/-- The state in which StepRunsDecodedInstruction performs the instruction: pc is advanced by n mod 65536, the read
mark of an address is set exactly if it was set before or the marking layer is present and the address is one of the n
at pc, and every other field is as before. -/
def Obligations.AfterFetchAdvancesPcAndMarksReads : Prop :=
  ∀ (s : State) (n : Nat),
    (s.afterFetch n).pc = s.pc + BitVec.ofNat 16 n ∧
    (∀ a : Word, (s.afterFetch n).readMarks.marked a.toNat =
      (s.readMarks.marked a.toNat || (s.marking && (List.range n).any fun k => a == s.pc + BitVec.ofNat 16 k))) ∧
    { s.afterFetch n with pc := s.pc, readMarks := s.readMarks } = s

/-! ### Completion and faults -/

/-- For every instruction i and every state s: if every data access that i makes in s (listed by dataAccesses in the
order of the spec's table of accesses) is allowed, exec i s answers a next state; if one is denied, exec i s is the
AccessViolation of the first denied one. An instruction with no data access always completes. The order of accesses is
the spec's decision D13. -/
def Obligations.ExecCompletesOrFaultsAtFirstDenied : Prop :=
  ∀ (i : Instr) (s : State),
    ((∀ x ∈ dataAccesses i s, s.allows x.1 x.2 = true) → ∃ t, exec i s = .next t) ∧
    FaultsAtFirstDenied s (dataAccesses i s) (exec i s)

/-- Formalises R66. If the plain variant is bound then every MemRead and MemWrite succeeds, and step answers a next
state, again plain, unless a vector above 0xFF is latched. -/
def Obligations.PlainMemoryNeverFails : Prop :=
  ∀ s : State, s.variant = .plain →
    (∀ a, memRead a s = .ok (s.byteAt a) (s.afterRead a)) ∧ (∀ a v, memWrite a v s = .ok () (s.afterWrite a v)) ∧
    ((s.intPending = true → s.intVector ≤ 0x00FF#16) → ∃ t, step s = .next t ∧ t.variant = .plain)

/-- step s raises IllegalDecode(v) if and only if int_pending is true and int_vector is v and v is above 0xFF; so no
fetched opcode raises it. That a latched vector above 0xFF raises it is the spec's own decision D7 (R328; log 13),
that nothing else does is R322. -/
def Obligations.IllegalDecodeOnlyFromLatchedVector : Prop :=
  ∀ (s : State) (v : Word),
    step s = .fault (.illegalDecode v) ↔ s.intPending = true ∧ s.intVector = v ∧ 0xFF < v.toNat

/-- Adding a range with upper <= lower <= 0x10000 raises InvalidRange with the two bounds; adding a range with a bound
above 0x10000 is refused, whichever bound it is and whether or not lower >= upper (the spec's decision D15: such
bounds are outside the parameter's domain); adding a range with lower < upper <= 0x10000 to a permission-checked core
puts it at the end of the table, overlapping or not; no step raises InvalidRange, and no step is refused. That the
first two hold on a core bound to the plain variant too is the model's choice (log 12). -/
def Obligations.InvalidRangeOnlyFromAddingRange : Prop :=
  (∀ (lower upper : Nat) (cap : Cap) (s : State), upper ≤ lower → lower ≤ 0x10000 →
    hostStep (.addRange lower upper cap) s = .fault (.invalidRange lower upper)) ∧
  (∀ (lower upper : Nat) (cap : Cap) (s : State), 0x10000 < max lower upper →
    hostStep (.addRange lower upper cap) s = .refused (.rangeBoundPastTop lower upper)) ∧
  (∀ (lower upper : Nat) (cap : Cap) (s : State) (ranges : List PermRange), lower < upper → upper ≤ 0x10000 →
    s.variant = .checked ranges →
    hostStep (.addRange lower upper cap) s = .next { s with variant := .checked (ranges ++ [⟨lower, upper, cap⟩]) }) ∧
  (∀ (s : State) (lower upper : Nat), step s ≠ .fault (.invalidRange lower upper)) ∧
  ∀ (s : State) (r : Refusal), step s ≠ .refused r

/-- Formalises R68. Under the permission-checked variant, with the capability resolved for the address: None fails a
read and a write with AccessViolation, Read allows the read and fails the write, Write fails the read and allows the
write, Both allows both. -/
def Obligations.CapabilityTableDecidesAccess : Prop :=
  ∀ (s : State) (ranges : List PermRange) (a : Word) (v : Byte), s.variant = .checked ranges →
    (resolve ranges a.toNat = .none →
      memRead a s = .fault (.accessViolation a .read) ∧ memWrite a v s = .fault (.accessViolation a .write)) ∧
    (resolve ranges a.toNat = .read →
      memRead a s = .ok (s.byteAt a) (s.afterRead a) ∧ memWrite a v s = .fault (.accessViolation a .write)) ∧
    (resolve ranges a.toNat = .write →
      memRead a s = .fault (.accessViolation a .read) ∧ memWrite a v s = .ok () (s.afterWrite a v)) ∧
    (resolve ranges a.toNat = .both →
      memRead a s = .ok (s.byteAt a) (s.afterRead a) ∧ memWrite a v s = .ok () (s.afterWrite a v))

/-- Resolve(a) is the cap of the first range with lower <= a < upper, whatever ranges follow it (a None range hides
them), and None if no range contains a. First match and deny by default are the spec's decision D15. -/
def Obligations.FirstMatchingRangeWins : Prop :=
  (∀ (earlier later : List PermRange) (r : PermRange) (a : Nat),
    (∀ q ∈ earlier, ¬(q.lower ≤ a ∧ a < q.upper)) → r.lower ≤ a → a < r.upper →
    resolve (earlier ++ r :: later) a = r.cap) ∧
  ∀ (ranges : List PermRange) (a : Nat), (∀ q ∈ ranges, ¬(q.lower ≤ a ∧ a < q.upper)) → resolve ranges a = .none

/-! ### Frames and noninterference -/

/-- For every instruction i that answers next t in s: every address that is not among the addresses i stores to in s
(storedTo: HL for MOV M, MVI M, INR M, DCR M; BC or DE for STAX; the operand address, and the next for SHLD; sp-1 and
sp-2 for PUSH, CALL, a taken Ccc and RST; sp and sp+1 for XTHL; none otherwise) reads as before; an instruction that
stores nothing leaves memory as it is. -/
def Obligations.MemoryFrame : Prop :=
  ∀ (i : Instr) (s t : State), exec i s = .next t →
    (∀ a : Word, a ∉ storedTo i s → t.byteAt a = s.byteAt a) ∧ (storedTo i s = [] → t.mem = s.mem)

/-- For every instruction i that answers next t: each of S, Z, AC, P, CY that flagsWritten i does not list (the spec's
table of flags written) is unchanged. The rows for INR, DCR, DAD, the rotates, STC and CMC are the spec's general
knowledge (GK3, GK4). -/
def Obligations.FlagWriteFrame : Prop :=
  ∀ (i : Instr) (s t : State) (f : FlagName), exec i s = .next t → f ∉ flagsWritten i → t.flags.get f = s.flags.get f

/-- If the flags of s are replaced by flags g that agree with them on the flags i reads (flagsRead, the spec's table),
then i answers the same next state but for the flags, with the flags it writes equal, or the same fault. -/
def Obligations.FlagReadNoninterference : Prop :=
  ∀ (i : Instr) (s : State) (g : Flags), (∀ f ∈ flagsRead i, g.get f = s.flags.get f) →
    (∀ t, exec i s = .next t → ∃ h : Flags, exec i { s with flags := g } = .next { t with flags := h } ∧
      ∀ f ∈ flagsWritten i, h.get f = t.flags.get f) ∧
    ∀ r, exec i s = .fault r → exec i { s with flags := g } = .fault r

/-- For every instruction i that answers next t: every register that regsWritten i does not list (its destination
register or pair) is unchanged, and sp is unchanged unless i is LXI SP, INX SP, DCX SP, SPHL, a push, a pop, a call, a
return or RST. -/
def Obligations.RegisterAndStackPointerFrame : Prop :=
  ∀ (i : Instr) (s t : State), exec i s = .next t →
    (∀ r : Reg, r ∉ regsWritten i → t.regs.get r = s.regs.get r) ∧ (writesSp i = false → t.sp = s.sp)

/-- For every instruction i that answers next t: int_pending, int_vector, the memory variant with its permission
table, the marking layer, TSTATES and T_JCC_NOT_TAKEN are unchanged; unless i is IN, OUT, EI or DI, no I/O event is
recorded and the device is unchanged. -/
def Obligations.LatchAndConfigurationFrame : Prop :=
  ∀ (i : Instr) (s t : State), exec i s = .next t →
    t.intPending = s.intPending ∧ t.intVector = s.intVector ∧ t.variant = s.variant ∧ t.marking = s.marking ∧
    t.figures = s.figures ∧ t.tJccNotTaken = s.tJccNotTaken ∧
    (callsIo i = false → t.events = s.events ∧ t.device = s.device ∧ t.draws = s.draws)

/-- For every instruction i that answers next t and every address a: a's read mark is set after exactly if it was set
before or marking is on and i reads a; likewise a's write mark and the addresses i stores to. What sets a mark is the
spec's decision D22. -/
def Obligations.MarksRecordDataAccesses : Prop :=
  ∀ (i : Instr) (s t : State) (a : Word), exec i s = .next t →
    t.readMarks.marked a.toNat = (s.readMarks.marked a.toNat || (s.marking && decide (a ∈ loadedFrom i s))) ∧
    t.writeMarks.marked a.toNat = (s.writeMarks.marked a.toNat || (s.marking && decide (a ∈ storedTo i s)))

/-- Replace the read marks, the write marks, the presence of the marking layer, the last T-state figure, TSTATES and
T_JCC_NOT_TAKEN in s by any others: the step answers the same next state but for these six, or the same fault. What
sets marks is the spec's decision D22, the figures D21. -/
def Obligations.MarksAndTimingNeverAffectExecution : Prop :=
  ∀ (s : State) (rm wm : Marks) (m : Bool) (n k : Nat) (fs : TstateTable),
    (∀ t, step s = .next t → ∃ rm' wm' n',
      step { s with readMarks := rm, writeMarks := wm, marking := m, tstates := n, figures := fs, tJccNotTaken := k } =
        .next { t with readMarks := rm', writeMarks := wm', marking := m, tstates := n', figures := fs, tJccNotTaken := k }) ∧
    ∀ f, step s = .fault f →
      step { s with readMarks := rm, writeMarks := wm, marking := m, tstates := n, figures := fs, tJccNotTaken := k } = .fault f

/-! ### The interrupt latch -/

/-- INTE after an instruction is true for EI, false for DI and unchanged for every other; EI and DI notify the I/O bus
of the new value; INTE is false at construction and no host move changes it; a request is accepted exactly if INTE is
true; a step that completes leaves nothing latched; whether a step completes, and its next state but for INTE, does
not depend on INTE, so a latched request is served whatever INTE is; and no host move but requestInterrupt depends on
it. That EI and DI act at once and notify even where the value does not change is the spec's decision D10, that INTE
is false at construction D11. That T is the figure of the parameter TSTATES is the spec's decision D21, with R380's
numbers as defaults (GK8 where the source has none); that an opcode without a condition reads the taken entry is the
model's choice (log 6). -/
def Obligations.InterruptEnableGatesAcceptanceOnly : Prop :=
  (∀ (i : Instr) (s t : State), exec i s = .next t →
    t.inte = if i = .ei then true else if i = .di then false else s.inte) ∧
  (∀ s : State, exec .ei s = .next { s with inte := true, events := s.events ++ [.inte true], tstates := s.figure 0xFB#8 true } ∧
    exec .di s = .next { s with inte := false, events := s.events ++ [.inte false], tstates := s.figure 0xF3#8 true }) ∧
  (∀ (op : HostOp) (s t : State), hostStep op s = .next t → t.inte = s.inte) ∧
  (∀ (p : Params) (l : Launch), (launch p l).inte = false) ∧
  (∀ (v : Nat) (s : State), (requestInterrupt v s).2 = s.inte) ∧
  (∀ (s t : State), step s = .next t → t.intPending = false) ∧
  (∀ (s : State) (b : Bool),
    (∀ t, step s = .next t → ∃ c, step { s with inte := b } = .next { t with inte := c }) ∧
    ∀ f, step s = .fault f → step { s with inte := b } = .fault f) ∧
  ∀ (op : HostOp) (s t : State) (b : Bool), (∀ v, op ≠ .requestInterrupt v) → hostStep op s = .next t →
    hostStep op { s with inte := b } = .next { t with inte := b }

/-- A completed step leaves int_vector as it was and int_pending false; every host move but requestInterrupt leaves
both as they were; requestInterrupt stores the vector and marks it pending while INTE is true and changes nothing
while it is false; while nothing is pending a step does not depend on int_vector. That a request made while one is
pending replaces it is the spec's decision D9 (R326; log 13). -/
def Obligations.LatchWrittenOnlyByRequest : Prop :=
  (∀ (s t : State), step s = .next t → t.intVector = s.intVector ∧ t.intPending = false) ∧
  (∀ (op : HostOp) (s t : State), (∀ v, op ≠ .requestInterrupt v) → hostStep op s = .next t →
    t.intPending = s.intPending ∧ t.intVector = s.intVector) ∧
  (∀ (n : Nat) (s : State), s.inte = true → (requestInterrupt n s).1 =
    { s with intPending := true, intVector := BitVec.ofNat 16 n }) ∧
  (∀ (n : Nat) (s : State), s.inte = false → (requestInterrupt n s).1 = s) ∧
  ∀ (s : State) (v : Word), s.intPending = false →
    (∀ t, step s = .next t → step { s with intVector := v } = .next { t with intVector := v }) ∧
    ∀ f, step s = .fault f → step { s with intVector := v } = .fault f

/-- With a vector op up to 0xFF latched, and op followed by the n bytes at pc decoding to exactly i: if the n operand
reads are allowed the step is exec i with pc advanced by n only (by nothing for a one-byte opcode), with int_pending
false afterwards, or its fault; else it is the violation of the first denied operand read. No opcode is read. Operand
bytes from pc are the spec's decision D29. -/
def Obligations.LatchedOpcodeIsPerformedWithoutFetch : Prop :=
  ∀ (s : State) (op : Byte) (n : Nat) (i : Instr), s.intPending = true → s.intVector = op.setWidth 16 →
    decode (op :: s.bytesAtPc n) = .ok (i, []) →
    (s.firstDenied (s.fetchReads n) = none →
      (∀ t, exec i (s.afterFetch n) = .next t → step s = .next { t with intPending := false }) ∧
      ∀ f, exec i (s.afterFetch n) = .fault f → step s = .fault f) ∧
    FaultsAtFirstDenied s (s.fetchReads n) (step s)

/-- With INTE true and both stack bytes writable, requesting the opcode of RST n and stepping once gives the state
with pc pushed (the address of the instruction that was about to be fetched), sp down by 2, pc at 8*n, int_pending
false and T = TSTATES (by default 11); INTE, flags, registers and every other field as before. An earlier request
before that step is replaced and lost (D9). The vector addresses (D19) and that INTE stays true (D8) are the spec's
decisions. The order of the two stores is the spec's decision D13 (log 13). That T is the figure of the parameter
TSTATES is the spec's decision D21, with R380's numbers as defaults (GK8 where the source has none); that an opcode
without a condition reads the taken entry is the model's choice (log 6). -/
def Obligations.AcceptedRstEntersHandler : Prop :=
  (∀ n : Fin 8, defaultFigures.figure (BitVec.ofNat 8 (0xC7 + 8 * n.val)) true = 11) ∧
  ∀ (s : State) (n : Fin 8), s.inte = true → s.pushable = true →
    step (requestInterrupt (0xC7 + 8 * n.val) s).1 =
      .next { s.afterPush s.pc with
        pc := BitVec.ofNat 16 (8 * n.val), intPending := false, intVector := BitVec.ofNat 16 (0xC7 + 8 * n.val), tstates := s.figure (BitVec.ofNat 8 (0xC7 + 8 * n.val)) true } ∧
    ∀ v : Nat, requestInterrupt (0xC7 + 8 * n.val) (requestInterrupt v s).1 = requestInterrupt (0xC7 + 8 * n.val) s

/-- If nothing is latched and the readable byte at pc is 0x76, the step answers a state that differs from s only in T
= TSTATES (by default 7) and the read mark of pc; that state is again at the end of the run, a step from it answers it
again, and any number of steps can follow. What HLT does and what ends a run are marked as general knowledge and
decision D18 by the spec. That T is the figure of the parameter TSTATES is the spec's decision D21, with R380's
numbers as defaults (GK8 where the source has none); that an opcode without a condition reads the taken entry is the
model's choice (log 6). -/
def Obligations.HaltIsIdempotent : Prop :=
  defaultFigures.figure 0x76#8 true = 7 ∧
  ∀ s : State, s.runEnded = true → ∃ t, t = { s.afterRead s.pc with tstates := s.figure 0x76#8 true } ∧
    step s = .next t ∧ t.runEnded = true ∧ step t = .next t ∧ ∀ n, SafeFor n t

/-! ### Registers, memory, the host -/

/-- Formalises R22, R23. Reading a register by index 0 to 5 and 7 gives B, C, D, E, H, L, A and index 6 is MemRead at
HL; writing masks to 8 bits and goes to that register, or by MemWrite to memory at HL; a written register reads back
and the others are unchanged. BC, DE and HL read as the high-named register followed by the low; writing a pair writes
its high and low bytes to the two registers and reads back. -/
def Obligations.RegisterFileAccess : Prop :=
  (∀ s : State,
    hostGetReg 0 s = .ok s.regs.b s ∧ hostGetReg 1 s = .ok s.regs.c s ∧ hostGetReg 2 s = .ok s.regs.d s ∧
    hostGetReg 3 s = .ok s.regs.e s ∧ hostGetReg 4 s = .ok s.regs.h s ∧ hostGetReg 5 s = .ok s.regs.l s ∧
    hostGetReg 6 s = memRead s.hl s ∧ hostGetReg 7 s = .ok s.regs.a s) ∧
  (∀ (s : State) (v : Nat),
    hostSetReg 0 v s = .ok () { s with regs := { s.regs with b := BitVec.ofNat 8 v } } ∧
    hostSetReg 1 v s = .ok () { s with regs := { s.regs with c := BitVec.ofNat 8 v } } ∧
    hostSetReg 2 v s = .ok () { s with regs := { s.regs with d := BitVec.ofNat 8 v } } ∧
    hostSetReg 3 v s = .ok () { s with regs := { s.regs with e := BitVec.ofNat 8 v } } ∧
    hostSetReg 4 v s = .ok () { s with regs := { s.regs with h := BitVec.ofNat 8 v } } ∧
    hostSetReg 5 v s = .ok () { s with regs := { s.regs with l := BitVec.ofNat 8 v } } ∧
    hostSetReg 6 v s = memWrite s.hl (BitVec.ofNat 8 v) s ∧
    hostSetReg 7 v s = .ok () { s with regs := { s.regs with a := BitVec.ofNat 8 v } }) ∧
  (∀ (x : Regs) (r q : Reg) (v : Byte), (x.set r v).get q = if q = r then v else x.get q) ∧
  (∀ s : State, s.getPair .bc = s.regs.b ++ s.regs.c ∧ s.getPair .de = s.regs.d ++ s.regs.e ∧
    s.getPair .hl = s.regs.h ++ s.regs.l) ∧
  ∀ (s : State) (w : Word), (∀ p, (s.setPair p w).getPair p = w) ∧
    (s.setPair .bc w).regs = { s.regs with b := w.extractLsb' 8 8, c := w.extractLsb' 0 8 } ∧
    (s.setPair .de w).regs = { s.regs with d := w.extractLsb' 8 8, e := w.extractLsb' 0 8 } ∧
    (s.setPair .hl w).regs = { s.regs with h := w.extractLsb' 8 8, l := w.extractLsb' 0 8 }

/-- Formalises R367, R368. Setting pc and sp masks to 16 bits; a pair is read and written by index 0 to 3 as BC, DE,
HL, sp; no host move changes or depends on the flags or changes INTE, none but requestInterrupt changes the latch
fields, and none but setting pc changes pc. -/
def Obligations.HostSetsPcSpPairsAndLatchByRequest : Prop :=
  (∀ (s : State) (w : Nat), hostStep (.setPc w) s = .next { s with pc := BitVec.ofNat 16 w } ∧
    hostStep (.setSp w) s = .next { s with sp := BitVec.ofNat 16 w } ∧
    hostStep (.setPair 0 w) s = .next (s.setPair .bc (BitVec.ofNat 16 w)) ∧
    hostStep (.setPair 1 w) s = .next (s.setPair .de (BitVec.ofNat 16 w)) ∧
    hostStep (.setPair 2 w) s = .next (s.setPair .hl (BitVec.ofNat 16 w)) ∧
    hostStep (.setPair 3 w) s = .next { s with sp := BitVec.ofNat 16 w } ∧
    hostGetPair 0 s = s.getPair .bc ∧ hostGetPair 1 s = s.getPair .de ∧ hostGetPair 2 s = s.getPair .hl ∧
    hostGetPair 3 s = s.sp) ∧
  (∀ (op : HostOp) (s t : State), hostStep op s = .next t → t.flags = s.flags ∧ t.inte = s.inte) ∧
  (∀ (op : HostOp) (s t : State), (∀ v, op ≠ .requestInterrupt v) → hostStep op s = .next t →
    t.intPending = s.intPending ∧ t.intVector = s.intVector) ∧
  (∀ (op : HostOp) (s t : State), (∀ w, op ≠ .setPc w) → hostStep op s = .next t → t.pc = s.pc) ∧
  ∀ (op : HostOp) (s t : State) (g : Flags), hostStep op s = .next t →
    hostStep op { s with flags := g } = .next { t with flags := g }

/-- Formalises R64, R65, R66, R81. For every address taken mod 65536: a read that is allowed answers the stored byte
and, with marking on, sets the read mark, changing nothing else; an allowed write stores the value mod 256 at that
address, leaves every other byte, and with marking on sets the write mark, changing nothing else; a denied access is
AccessViolation with the reduced address and the direction; the plain variant allows everything; an address and the
address plus 0x10000 behave alike. Memory is assumed in its canonical form (StepKeepsInv). -/
def Obligations.MemoryBusReadsAndWrites : Prop :=
  ∀ (s : State) (addr v : Nat) (a : Word), a = BitVec.ofNat 16 addr →
    (s.variant = .plain → s.allows a .read = true ∧ s.allows a .write = true) ∧
    (s.allows a .read = true → hostRead addr s =
      .ok (s.byteAt a) { s with readMarks := if s.marking = true then s.readMarks.insert a.toNat else s.readMarks }) ∧
    (s.allows a .read = false → hostRead addr s = .fault (.accessViolation a .read)) ∧
    (∀ b : Nat, (s.readMarks.insert a.toNat).marked b = (s.readMarks.marked b || b == a.toNat)) ∧
    (s.mem.wf = true → s.allows a .write = true → ∃ t, hostWrite addr v s = .ok () t ∧
      t.byteAt a = BitVec.ofNat 8 v ∧ (∀ b : Word, b ≠ a → t.byteAt b = s.byteAt b) ∧
      (∀ b : Nat, t.writeMarks.marked b = (s.writeMarks.marked b || (s.marking && b == a.toNat))) ∧
      { t with mem := s.mem, writeMarks := s.writeMarks } = s) ∧
    (s.allows a .write = false → hostWrite addr v s = .fault (.accessViolation a .write)) ∧
    hostRead (addr + 0x10000) s = hostRead addr s ∧ hostWrite (addr + 0x10000) v s = hostWrite addr v s

/-- bulkLoad puts byte k mod 256 at start + k (start mod 65536) for each k, leaves every other byte and every other
field, permission table and marks included, and is refused exactly when it would pass 0xFFFF; clear makes every byte 0
and changes nothing else; snapshot is the 65,536 bytes in address order. The treatment is the spec's decision D16 (and
D22). -/
def Obligations.HostLoadsClearsAndExportsMemory : Prop :=
  ∀ s : State,
    (∀ (bytes : List Nat) (start : Nat), s.mem.wf = true → start % 65536 + bytes.length ≤ 65536 →
      ∃ t, bulkLoad bytes start s = .next t ∧
        (∀ (k : Nat) (h : k < bytes.length), t.mem.read (start % 65536 + k) = BitVec.ofNat 8 bytes[k]) ∧
        (∀ b : Nat, (b < start % 65536 ∨ start % 65536 + bytes.length ≤ b) → t.mem.read b = s.mem.read b) ∧
        { t with mem := s.mem } = s) ∧
    (∀ (bytes : List Nat) (start : Nat), 65536 < start % 65536 + bytes.length →
      bulkLoad bytes start s = .refused (.bulkLoadPastTop start bytes.length)) ∧
    (∀ a : Word, (clearMemory s).byteAt a = 0x00#8) ∧ { clearMemory s with mem := s.mem } = s ∧
    (snapshot s).length = 65536 ∧ ∀ a : Word, (snapshot s)[a.toNat]? = some (s.byteAt a)

/-- After MemWrite of any byte op at the address in pc, the next step fetches op and performs it with pc advanced by
one; nothing is needed in between. The spec marks the rule as derived. -/
def Obligations.StoreIsSeenByNextFetch : Prop :=
  ∀ (s t : State) (op : Byte), s.mem.wf = true → s.intPending = false → memWrite s.pc op s = .ok () t →
    s.allows s.pc .read = true → step t = executeOpcode op ((t.afterRead s.pc).setPc (s.pc + 1))

/-- If both bytes below sp may be read and written: Push16(w) leaves w's high byte at sp-1, its low byte at sp-2,
every other byte and register as before, and sp lower by 2 (all mod 65536, so across the wrap too); Pop16 from there
answers w, restores sp and leaves memory. The order of the stores is the spec's decision D13; Pop16 is marked derived.
-/
def Obligations.PushThenPopRestores : Prop :=
  ∀ (s : State) (w : Word), s.mem.wf = true → s.allows (s.sp - 1) .read = true → s.allows (s.sp - 1) .write = true →
    s.allows (s.sp - 2) .read = true → s.allows (s.sp - 2) .write = true → ∃ t u, push16 w s = .ok () t ∧
      t.sp = s.sp - 2 ∧ t.byteAt (s.sp - 1) = w.extractLsb' 8 8 ∧ t.byteAt (s.sp - 2) = w.extractLsb' 0 8 ∧
      (∀ b, b ≠ s.sp - 1 → b ≠ s.sp - 2 → t.byteAt b = s.byteAt b) ∧
      { t with sp := s.sp, mem := s.mem, writeMarks := s.writeMarks } = s ∧
      pop16 t = .ok w u ∧ u.sp = s.sp ∧ u.mem = t.mem

/-- The packed status byte is the numeric formula of the spec, its bit 1 is 1 and bits 3 and 5 are 0; unpacking a
packed byte gives the five flags back; packing an unpacked byte keeps bits 7, 6, 4, 2, 0 and sets bit 1, clears bits 3
and 5. The bit positions are the spec's decision D4 (GK7), the fixed bits' memory D27. -/
def Obligations.StatusBytePacking : Prop :=
  (∀ f : Flags, (packPSW f).toNat = bit f.s * 128 + bit f.z * 64 + bit f.ac * 16 + bit f.p * 4 + 2 + bit f.cy ∧
    packPSW f &&& 0x2A#8 = 0x02#8 ∧ unpackPSW (packPSW f) = f) ∧
  ∀ b : Byte, packPSW (unpackPSW b) = (b &&& 0xD5#8) ||| 0x02#8

/-! ### Data transfer -/

/-- For each of the 49 pairs of registers: the byte 01dddsss performs the MOV, and it answers the state with the
destination register holding the source register's value and T = TSTATES (by default 5), every other register, flag,
pc, sp and memory unchanged; it never faults. That T is the figure of the parameter TSTATES is the spec's decision
D21, with R380's numbers as defaults (GK8 where the source has none); that an opcode without a condition reads the
taken entry is the model's choice (log 6). -/
def Obligations.MovRegisterToRegister : Prop :=
  (∀ dst src : Reg, defaultFigures.figure (0b01#2 ++ dst.field ++ src.field) true = 5) ∧
  ∀ dst src : Reg, PerformsF1 (0b01#2 ++ dst.field ++ src.field) (.movOf dst src) ∧
    ∀ s : State, exec (.movOf dst src) s = .next { s with regs := s.regs.set dst (s.regs.get src), tstates := s.figure (0b01#2 ++ dst.field ++ src.field) true }

/-- For each of the 7 registers: 01ddd110 performs MOV r,M, which when HL is readable answers the state with the byte
at the old HL in the register and T = TSTATES (by default 7), else AccessViolation(HL, Read); 01110sss performs MOV
M,r, which when HL is writable answers the state with the register stored at HL and T = TSTATES (by default 7), else
AccessViolation(HL, Write). Nothing else changes but the access marks. That T is the figure of the parameter TSTATES
is the spec's decision D21, with R380's numbers as defaults (GK8 where the source has none); that an opcode without a
condition reads the taken entry is the model's choice (log 6). -/
def Obligations.MovThroughMemoryOperand : Prop :=
  (∀ r : Reg, defaultFigures.figure (0b01#2 ++ r.field ++ 0b110#3) true = 7 ∧
    defaultFigures.figure (0b01110#5 ++ r.field) true = 7) ∧
  (∀ dst : Reg, PerformsF1 (0b01#2 ++ dst.field ++ 0b110#3) (.movFromMOf dst) ∧ ∀ s : State,
    (s.allows s.hl .read = true → exec (.movFromMOf dst) s =
      .next { s.afterRead s.hl with regs := s.regs.set dst (s.byteAt s.hl), tstates := s.figure (0b01#2 ++ dst.field ++ 0b110#3) true }) ∧
    (s.allows s.hl .read = false → exec (.movFromMOf dst) s = .fault (.accessViolation s.hl .read))) ∧
  ∀ src : Reg, PerformsF1 (0b01110#5 ++ src.field) (.movToMOf src) ∧ ∀ s : State,
    (s.allows s.hl .write = true → exec (.movToMOf src) s =
      .next { s.afterWrite s.hl (s.regs.get src) with tstates := s.figure (0b01110#5 ++ src.field) true }) ∧
    (s.allows s.hl .write = false → exec (.movToMOf src) s = .fault (.accessViolation s.hl .write))

/-- For each of the 7 registers: 00ddd110 fetches its operand byte and performs MVI with it (a denied fetch faults),
which answers the state with the byte in the register and T = TSTATES (by default 7), all else unchanged. That T is
the figure of the parameter TSTATES is the spec's decision D21, with R380's numbers as defaults (GK8 where the source
has none); that an opcode without a condition reads the taken entry is the model's choice (log 6). -/
def Obligations.MviLoadsImmediateByte : Prop :=
  (∀ r : Reg, defaultFigures.figure (0b00#2 ++ r.field ++ 0b110#3) true = 7) ∧
  ∀ r : Reg, PerformsF2 (0b00#2 ++ r.field ++ 0b110#3) (.mviOf r) ∧
    ∀ (d : Byte) (s : State), exec (.mviOf r d) s = .next { s with regs := s.regs.set r d, tstates := s.figure (0b00#2 ++ r.field ++ 0b110#3) true }

/-- 00pp0001 fetches two operand bytes, low byte first, and performs LXI with the word: the high byte goes to B, D or
H and the low byte to C, E or L, or the word to sp; T = TSTATES (by default 10); all else unchanged. The order of the
two operand bytes is the spec's decision D13 (log 13). That T is the figure of the parameter TSTATES is the spec's
decision D21, with R380's numbers as defaults (GK8 where the source has none); that an opcode without a condition
reads the taken entry is the model's choice (log 6). -/
def Obligations.LxiLoadsImmediateWord : Prop :=
  (∀ p : RegPair, defaultFigures.figure (0b00#2 ++ p.field ++ 0b0001#4) true = 10) ∧
  (∀ p : RegPair, PerformsF3 (0b00#2 ++ p.field ++ 0b0001#4) (.lxiOf p)) ∧
  ∀ (w : Word) (s : State),
    exec (.lxiB w) s = .next { s with regs := { s.regs with b := highByte w, c := lowByte w }, tstates := s.figure 0x01#8 true } ∧
    exec (.lxiD w) s = .next { s with regs := { s.regs with d := highByte w, e := lowByte w }, tstates := s.figure 0x11#8 true } ∧
    exec (.lxiH w) s = .next { s with regs := { s.regs with h := highByte w, l := lowByte w }, tstates := s.figure 0x21#8 true } ∧
    exec (.lxiSP w) s = .next { s with sp := w, tstates := s.figure 0x31#8 true }

/-- With the accessed address allowed: MVI M stores its byte at HL (T = TSTATES (by default 10)); LDA loads A from its
address and STA stores A there (T = TSTATES (by default 13)); LDAX loads A from the address in BC or DE and STAX
stores A there (T = TSTATES (by default 7)); nothing else changes but the access marks. A denied access is its
violation. The semantics are general knowledge the spec supplies (GK2). The order of the two operand bytes is the
spec's decision D13 (log 13). That T is the figure of the parameter TSTATES is the spec's decision D21, with R380's
numbers as defaults (GK8 where the source has none); that an opcode without a condition reads the taken entry is the
model's choice (log 6). -/
def Obligations.ByteLoadsAndStores : Prop :=
  defaultFigures.figure 0x36#8 true = 10 ∧ defaultFigures.figure 0x3A#8 true = 13 ∧
  defaultFigures.figure 0x32#8 true = 13 ∧
  (∀ p : IndexPair, defaultFigures.figure (0b000#3 ++ p.field ++ 0b1010#4) true = 7 ∧
    defaultFigures.figure (0b000#3 ++ p.field ++ 0b0010#4) true = 7) ∧
  PerformsF2 0x36#8 .mviM ∧ PerformsF3 0x3A#8 .lda ∧ PerformsF3 0x32#8 .sta ∧
  (∀ p : IndexPair, PerformsF1 (0b000#3 ++ p.field ++ 0b1010#4) (.ldaxOf p) ∧
    PerformsF1 (0b000#3 ++ p.field ++ 0b0010#4) (.staxOf p)) ∧
  ∀ (s : State) (d : Byte) (a bcde : Word) (p : IndexPair),
    bcde = (match p with | .bc => s.regs.b ++ s.regs.c | .de => s.regs.d ++ s.regs.e) →
    (s.allows s.hl .write = true → exec (.mviM d) s = .next { s.afterWrite s.hl d with tstates := s.figure 0x36#8 true }) ∧
    FaultsAtFirstDenied s [(s.hl, .write)] (exec (.mviM d) s) ∧
    (s.allows a .read = true → exec (.lda a) s =
      .next { s.afterRead a with regs := { s.regs with a := s.byteAt a }, tstates := s.figure 0x3A#8 true }) ∧
    FaultsAtFirstDenied s [(a, .read)] (exec (.lda a) s) ∧
    (s.allows a .write = true → exec (.sta a) s = .next { s.afterWrite a s.regs.a with tstates := s.figure 0x32#8 true }) ∧
    FaultsAtFirstDenied s [(a, .write)] (exec (.sta a) s) ∧
    (s.allows bcde .read = true → exec (.ldaxOf p) s =
      .next { s.afterRead bcde with regs := { s.regs with a := s.byteAt bcde }, tstates := s.figure (0b000#3 ++ p.field ++ 0b1010#4) true }) ∧
    FaultsAtFirstDenied s [(bcde, .read)] (exec (.ldaxOf p) s) ∧
    (s.allows bcde .write = true → exec (.staxOf p) s = .next { s.afterWrite bcde s.regs.a with tstates := s.figure (0b000#3 ++ p.field ++ 0b0010#4) true }) ∧
    FaultsAtFirstDenied s [(bcde, .write)] (exec (.staxOf p) s)

/-- With both bytes allowed (a + 1 mod 65536): LHLD loads L from a and H from a + 1, SHLD stores L at a and H at a +
1, T = TSTATES (by default 16); a denied access is the violation of the first denied in that order. XCHG exchanges D
with H and E with L, T = TSTATES (by default 4). Nothing else changes but the access marks. The semantics are general
knowledge the spec supplies (GK2). The order of the two operand bytes and of the bytes read or stored is the spec's
decision D13 (log 13). That T is the figure of the parameter TSTATES is the spec's decision D21, with R380's numbers
as defaults (GK8 where the source has none); that an opcode without a condition reads the taken entry is the model's
choice (log 6). -/
def Obligations.WordLoadsStoresAndExchange : Prop :=
  defaultFigures.figure 0x2A#8 true = 16 ∧ defaultFigures.figure 0x22#8 true = 16 ∧
  defaultFigures.figure 0xEB#8 true = 4 ∧
  PerformsF3 0x2A#8 .lhld ∧ PerformsF3 0x22#8 .shld ∧ PerformsF1 0xEB#8 .xchg ∧
  ∀ (s : State) (a : Word),
    (s.allows a .read = true → s.allows (a + 1) .read = true → exec (.lhld a) s =
      .next { (s.afterRead a).afterRead (a + 1) with
        regs := { s.regs with l := s.byteAt a, h := s.byteAt (a + 1) }, tstates := s.figure 0x2A#8 true }) ∧
    FaultsAtFirstDenied s [(a, .read), (a + 1, .read)] (exec (.lhld a) s) ∧
    (s.allows a .write = true → s.allows (a + 1) .write = true → exec (.shld a) s =
      .next { (s.afterWrite a s.regs.l).afterWrite (a + 1) s.regs.h with tstates := s.figure 0x22#8 true }) ∧
    FaultsAtFirstDenied s [(a, .write), (a + 1, .write)] (exec (.shld a) s) ∧
    exec .xchg s = .next { s with
      regs := { s.regs with d := s.regs.h, e := s.regs.l, h := s.regs.d, l := s.regs.e }, tstates := s.figure 0xEB#8 true }

/-! ### Arithmetic -/

/-- AluAdd(v, withCarry), with cin 1 exactly if withCarry and CY, leaves (A + v + cin) mod 256 in A with the flags
described here and CY bit 8 of the sum; on accumulator 0 without carry A becomes v, CY false and Z whether v is 0.
10000sss performs ADD with a register or M, 0xC6 fetches a byte and performs ADI. Each leaves A + v mod 256 in A; S is
bit 7 and Z and P the zero test and even parity of the result, AC whether the low nibbles' sum exceeds 15, CY whether
the sum exceeds 255; T = TSTATES (by default 4, with M 7, for ADI 7); all else unchanged but M's read mark. ADD M with
HL unreadable is AccessViolation(HL, Read). That T is the figure of the parameter TSTATES is the spec's decision D21,
with R380's numbers as defaults (GK8 where the source has none); that an opcode without a condition reads the taken
entry is the model's choice (log 6). -/
def Obligations.AddSetsSumAndFlags : Prop :=
  (∀ r : RegM, defaultFigures.figure (0b10000#5 ++ r.field) true = if r = .mem then 7 else 4) ∧
  defaultFigures.figure 0xC6#8 true = 7 ∧
  (∀ (s : State) (v : Byte) (withCarry cin : Bool), cin = (withCarry && s.flags.cy) →
    aluAdd v withCarry s = { s with
      regs := { s.regs with a := BitVec.ofNat 8 (s.regs.a.toNat + v.toNat + bit cin) },
      flags := sumFlags s.regs.a v cin } ∧
    (sumFlags s.regs.a v cin).cy = (s.regs.a.toNat + v.toNat + bit cin).testBit 8) ∧
  (∀ (s : State) (v : Byte), s.regs.a = 0x00#8 →
    (aluAdd v false s).regs.a = v ∧ (aluAdd v false s).flags.cy = false ∧ (aluAdd v false s).flags.z = decide (v = 0x00#8)) ∧
  (∀ r : RegM, PerformsF1 (0b10000#5 ++ r.field) (.aluOf .add r)) ∧ PerformsF2 0xC6#8 .adi ∧
  (∀ (s : State) (r : RegM),
    (s.operandReadable r = true → exec (.aluOf .add r) s = .next { s.afterOperand r with
      regs := { s.regs with a := s.regs.a + s.operandValue r }, flags := sumFlags s.regs.a (s.operandValue r) false,
      tstates := s.figure (0b10000#5 ++ r.field) true }) ∧
    (s.operandReadable r = false → exec (.aluOf .add r) s = .fault (.accessViolation s.hl .read))) ∧
  ∀ (s : State) (v : Byte), exec (.adi v) s = .next { s with
    regs := { s.regs with a := s.regs.a + v }, flags := sumFlags s.regs.a v false, tstates := s.figure 0xC6#8 true }

/-- ADC and ACI leave A + v + CY mod 256 with the flags of that sum; SUB and SUI leave A - v, SBB and SBI A - v - CY,
mod 256, with S Z P of the result, CY true exactly if A is less than what is subtracted, and AC true exactly if A's
low nibble is not less (no borrow out of bit 3). T = TSTATES (by default 4, with M or an immediate 7); all else
unchanged but M's read mark. With M unreadable, AccessViolation(HL, Read). AC after a subtraction is the spec's
decision D5; ADC, SBB, ACI, SBI are general knowledge (GK3). That T is the figure of the parameter TSTATES is the
spec's decision D21, with R380's numbers as defaults (GK8 where the source has none); that an opcode without a
condition reads the taken entry is the model's choice (log 6). -/
def Obligations.CarryAndBorrowArithmetic : Prop :=
  (∀ r : RegM, defaultFigures.figure (0b10001#5 ++ r.field) true = (if r = .mem then 7 else 4) ∧
    defaultFigures.figure (0b10010#5 ++ r.field) true = (if r = .mem then 7 else 4) ∧
    defaultFigures.figure (0b10011#5 ++ r.field) true = if r = .mem then 7 else 4) ∧
  defaultFigures.figure 0xCE#8 true = 7 ∧ defaultFigures.figure 0xD6#8 true = 7 ∧
  defaultFigures.figure 0xDE#8 true = 7 ∧
  (∀ r : RegM, PerformsF1 (0b10001#5 ++ r.field) (.aluOf .adc r) ∧ PerformsF1 (0b10010#5 ++ r.field) (.aluOf .sub r) ∧
    PerformsF1 (0b10011#5 ++ r.field) (.aluOf .sbb r)) ∧
  PerformsF2 0xCE#8 .aci ∧ PerformsF2 0xD6#8 .sui ∧ PerformsF2 0xDE#8 .sbi ∧
  (∀ (s : State) (r : RegM),
    (s.operandReadable r = true →
      exec (.aluOf .adc r) s = .next { s.afterOperand r with
        regs := { s.regs with a := s.regs.a + s.operandValue r + BitVec.ofNat 8 (bit s.flags.cy) },
        flags := sumFlags s.regs.a (s.operandValue r) s.flags.cy, tstates := s.figure (0b10001#5 ++ r.field) true } ∧
      exec (.aluOf .sub r) s = .next { s.afterOperand r with
        regs := { s.regs with a := difference s.regs.a (s.operandValue r) false },
        flags := differenceFlags s.regs.a (s.operandValue r) false, tstates := s.figure (0b10010#5 ++ r.field) true } ∧
      exec (.aluOf .sbb r) s = .next { s.afterOperand r with
        regs := { s.regs with a := difference s.regs.a (s.operandValue r) s.flags.cy },
        flags := differenceFlags s.regs.a (s.operandValue r) s.flags.cy, tstates := s.figure (0b10011#5 ++ r.field) true }) ∧
    (s.operandReadable r = false → ∀ op ∈ [AluOp.adc, .sub, .sbb],
      exec (.aluOf op r) s = .fault (.accessViolation s.hl .read))) ∧
  ∀ (s : State) (v : Byte),
    exec (.aci v) s = .next { s with
      regs := { s.regs with a := s.regs.a + v + BitVec.ofNat 8 (bit s.flags.cy) },
      flags := sumFlags s.regs.a v s.flags.cy, tstates := s.figure 0xCE#8 true } ∧
    exec (.sui v) s = .next { s with
      regs := { s.regs with a := difference s.regs.a v false },
      flags := differenceFlags s.regs.a v false, tstates := s.figure 0xD6#8 true } ∧
    exec (.sbi v) s = .next { s with
      regs := { s.regs with a := difference s.regs.a v s.flags.cy },
      flags := differenceFlags s.regs.a v s.flags.cy, tstates := s.figure 0xDE#8 true }

/-- INR r and DCR r leave the register plus or minus 1 mod 256, with S Z P of the result, AC true for INR exactly if
the result's low nibble is 0 and for DCR exactly if it is not 15, CY unchanged, T = TSTATES (by default 5); INR M and
DCR M do the same to the byte at HL, reading then writing it, T = TSTATES (by default 10), and on a denied access are
the violation of the first denied. Nothing else changes. The flags are general knowledge the spec supplies (GK3). The
order of the read and the write of M is the spec's decision D13 (log 13). That T is the figure of the parameter
TSTATES is the spec's decision D21, with R380's numbers as defaults (GK8 where the source has none); that an opcode
without a condition reads the taken entry is the model's choice (log 6). -/
def Obligations.IncrementAndDecrementByte : Prop :=
  (∀ r : Reg, defaultFigures.figure (0b00#2 ++ r.field ++ 0b100#3) true = 5 ∧
    defaultFigures.figure (0b00#2 ++ r.field ++ 0b101#3) true = 5) ∧
  defaultFigures.figure 0x34#8 true = 10 ∧ defaultFigures.figure 0x35#8 true = 10 ∧
  (∀ r : Reg, PerformsF1 (0b00#2 ++ r.field ++ 0b100#3) (.inrOf r) ∧ PerformsF1 (0b00#2 ++ r.field ++ 0b101#3) (.dcrOf r)) ∧
  PerformsF1 0x34#8 .inrM ∧ PerformsF1 0x35#8 .dcrM ∧
  (∀ (s : State) (r : Reg) (v : Byte), v = s.regs.get r + 1 → exec (.inrOf r) s = .next { s with
    regs := s.regs.set r v, flags := resultFlags v (decide (v.toNat % 16 = 0)) s.flags.cy, tstates := s.figure (0b00#2 ++ r.field ++ 0b100#3) true }) ∧
  (∀ (s : State) (r : Reg) (v : Byte), v = s.regs.get r - 1 → exec (.dcrOf r) s = .next { s with
    regs := s.regs.set r v, flags := resultFlags v (decide (v.toNat % 16 ≠ 15)) s.flags.cy, tstates := s.figure (0b00#2 ++ r.field ++ 0b101#3) true }) ∧
  ∀ (s : State) (v w : Byte), v = s.byteAt s.hl + 1 → w = s.byteAt s.hl - 1 →
    (s.allows s.hl .read = true → s.allows s.hl .write = true →
      exec .inrM s = .next { (s.afterRead s.hl).afterWrite s.hl v with
        flags := resultFlags v (decide (v.toNat % 16 = 0)) s.flags.cy, tstates := s.figure 0x34#8 true } ∧
      exec .dcrM s = .next { (s.afterRead s.hl).afterWrite s.hl w with
        flags := resultFlags w (decide (w.toNat % 16 ≠ 15)) s.flags.cy, tstates := s.figure 0x35#8 true }) ∧
    FaultsAtFirstDenied s [(s.hl, .read), (s.hl, .write)] (exec .inrM s) ∧
    FaultsAtFirstDenied s [(s.hl, .read), (s.hl, .write)] (exec .dcrM s)

/-- For each of BC, DE, HL and sp: INX and DCX leave the pair plus or minus 1 mod 65536 and no flag changed, T =
TSTATES (by default 5); DAD leaves HL plus the pair in HL mod 65536, CY bit 16 of the sum and S Z AC P unchanged, T =
TSTATES (by default 10); nothing else changes. What they compute is general knowledge the spec supplies (GK3). That T
is the figure of the parameter TSTATES is the spec's decision D21, with R380's numbers as defaults (GK8 where the
source has none); that an opcode without a condition reads the taken entry is the model's choice (log 6). -/
def Obligations.PairArithmetic : Prop :=
  (∀ p : RegPair, defaultFigures.figure (0b00#2 ++ p.field ++ 0b0011#4) true = 5 ∧
    defaultFigures.figure (0b00#2 ++ p.field ++ 0b1011#4) true = 5 ∧
    defaultFigures.figure (0b00#2 ++ p.field ++ 0b1001#4) true = 10) ∧
  (∀ p : RegPair, PerformsF1 (0b00#2 ++ p.field ++ 0b0011#4) (.inxOf p) ∧ PerformsF1 (0b00#2 ++ p.field ++ 0b1011#4) (.dcxOf p) ∧
    PerformsF1 (0b00#2 ++ p.field ++ 0b1001#4) (.dadOf p)) ∧
  ∀ (s : State) (p : RegPair) (sum : Nat), sum = (s.getPair .hl).toNat + (s.getPair p).toNat →
    exec (.inxOf p) s = .next { s.setPair p (BitVec.ofNat 16 ((s.getPair p).toNat + 1)) with tstates := s.figure (0b00#2 ++ p.field ++ 0b0011#4) true } ∧
    exec (.dcxOf p) s = .next { s.setPair p (BitVec.ofNat 16 ((s.getPair p).toNat + 65535)) with tstates := s.figure (0b00#2 ++ p.field ++ 0b1011#4) true } ∧
    exec (.dadOf p) s = .next { s with
      regs := { s.regs with h := BitVec.ofNat 8 (sum / 256), l := BitVec.ofNat 8 sum },
      flags := { s.flags with cy := sum.testBit 16 }, tstates := s.figure (0b00#2 ++ p.field ++ 0b1001#4) true }

/-- With lo and hi the nibbles of A: 6 is added if AC or lo > 9, 0x60 if CY or hi > 9 or (hi >= 9 and lo > 9); A
becomes A plus that mod 256, S Z P are of the result, AC is the carry out of bit 3 of that addition and CY whether
0x60 was added; T = TSTATES (by default 4); nothing else changes. The reading of the pending adjustment is the spec's
decision D6. That T is the figure of the parameter TSTATES is the spec's decision D21, with R380's numbers as defaults
(GK8 where the source has none); that an opcode without a condition reads the taken entry is the model's choice (log
6). -/
def Obligations.DecimalAdjustRule : Prop :=
  defaultFigures.figure 0x27#8 true = 4 ∧
  PerformsF1 0x27#8 .daa ∧
  ∀ (s : State) (lo hi adj : Nat) (high : Bool), lo = s.regs.a.toNat % 16 → hi = s.regs.a.toNat / 16 →
    high = (s.flags.cy || decide (9 < hi) || (decide (9 ≤ hi) && decide (9 < lo))) →
    adj = (if s.flags.ac = true ∨ 9 < lo then 6 else 0) + (if high = true then 0x60 else 0) →
    exec .daa s = .next { s with
      regs := { s.regs with a := BitVec.ofNat 8 (s.regs.a.toNat + adj) },
      flags := resultFlags (BitVec.ofNat 8 (s.regs.a.toNat + adj)) (decide (15 < lo + adj % 16)) high,
      tstates := s.figure 0x27#8 true }

/-- If A and B hold the packed decimals of m and n below 100, then ADC B followed by DAA leaves in A the packed
decimal of (m + n + CY) mod 100 and in CY whether m + n + CY is 100 or more. A consequence of the ADC and DAA rules
(GK3, D5, D6). -/
def Obligations.DecimalAdjustGivesDecimalSum : Prop :=
  ∀ (s t u : State) (m n : Nat), m < 100 → n < 100 → s.regs.a = packedDecimal m → s.regs.b = packedDecimal n →
    exec .adcB s = .next t → exec .daa t = .next u →
    u.regs.a = packedDecimal ((m + n + bit s.flags.cy) % 100) ∧ u.flags.cy = decide (100 ≤ m + n + bit s.flags.cy)

/-! ### Logical, compare, rotate -/

/-- The primitives AluAnd, AluXor and AluOr leave A and v, A xor v, A or v in A with S Z P of the result, CY false, AC
bit 3 of (A or v) for the AND and false for the other two. 10100sss, 10101sss and 10110sss perform ANA, XRA and ORA
with a register or M: that result, T = TSTATES (by default 4, with M 7), all else unchanged but M's read mark; with M
unreadable AccessViolation(HL, Read). CY false after XRA and ORA is the spec's reading GK13 of its source's "Carry is
always cleared" (log 13). That T is the figure of the parameter TSTATES is the spec's decision D21, with R380's
numbers as defaults (GK8 where the source has none); that an opcode without a condition reads the taken entry is the
model's choice (log 6). -/
def Obligations.LogicalOperations : Prop :=
  (∀ r : RegM, defaultFigures.figure (0b10100#5 ++ r.field) true = (if r = .mem then 7 else 4) ∧
    defaultFigures.figure (0b10101#5 ++ r.field) true = (if r = .mem then 7 else 4) ∧
    defaultFigures.figure (0b10110#5 ++ r.field) true = if r = .mem then 7 else 4) ∧
  (∀ r : RegM, PerformsF1 (0b10100#5 ++ r.field) (.aluOf .ana r) ∧ PerformsF1 (0b10101#5 ++ r.field) (.aluOf .xra r) ∧
    PerformsF1 (0b10110#5 ++ r.field) (.aluOf .ora r)) ∧
  (∀ (s : State) (v : Byte),
    aluAnd v s = { s with
      regs := { s.regs with a := s.regs.a &&& v },
      flags := resultFlags (s.regs.a &&& v) ((s.regs.a ||| v).getLsbD 3) false } ∧
    aluXor v s = { s with regs := { s.regs with a := s.regs.a ^^^ v }, flags := resultFlags (s.regs.a ^^^ v) false false } ∧
    aluOr v s = { s with regs := { s.regs with a := s.regs.a ||| v }, flags := resultFlags (s.regs.a ||| v) false false }) ∧
  ∀ (s : State) (r : RegM) (v : Byte), v = s.operandValue r →
    (s.operandReadable r = true →
      exec (.aluOf .ana r) s = .next { s.afterOperand r with
      regs := { s.regs with a := s.regs.a &&& v },
        flags := resultFlags (s.regs.a &&& v) ((s.regs.a ||| v).getLsbD 3) false, tstates := s.figure (0b10100#5 ++ r.field) true } ∧
      exec (.aluOf .xra r) s = .next { s.afterOperand r with
      regs := { s.regs with a := s.regs.a ^^^ v },
        flags := resultFlags (s.regs.a ^^^ v) false false, tstates := s.figure (0b10101#5 ++ r.field) true } ∧
      exec (.aluOf .ora r) s = .next { s.afterOperand r with
      regs := { s.regs with a := s.regs.a ||| v },
        flags := resultFlags (s.regs.a ||| v) false false, tstates := s.figure (0b10110#5 ++ r.field) true }) ∧
    (s.operandReadable r = false → ∀ op ∈ [AluOp.ana, .xra, .ora],
      exec (.aluOf op r) s = .fault (.accessViolation s.hl .read))

/-- 0xE6, 0xEE and 0xF6 fetch their byte and perform ANI, XRI and ORI: the results and flags of ANA, XRA and ORA, T =
TSTATES (by default 7). 10111sss performs CMP with a register or M, 0xFE fetches a byte and performs CPI: Z is A = v,
CY is A < v as unsigned bytes, S and P are bit 7 and even parity of (A - v) mod 256, AC is A mod 16 >= v mod 16; A is
unchanged; T = TSTATES (by default 4, with M or an immediate 7). All else is unchanged but M's read mark; with M
unreadable AccessViolation(HL, Read). AC after a compare rests on the spec's decision D5, the immediate opcodes on
GK4. That T is the figure of the parameter TSTATES is the spec's decision D21, with R380's numbers as defaults (GK8
where the source has none); that an opcode without a condition reads the taken entry is the model's choice (log 6). -/
def Obligations.LogicalImmediatesAndCompare : Prop :=
  defaultFigures.figure 0xE6#8 true = 7 ∧ defaultFigures.figure 0xEE#8 true = 7 ∧
  defaultFigures.figure 0xF6#8 true = 7 ∧ defaultFigures.figure 0xFE#8 true = 7 ∧
  (∀ r : RegM, defaultFigures.figure (0b10111#5 ++ r.field) true = if r = .mem then 7 else 4) ∧
  PerformsF2 0xE6#8 .ani ∧ PerformsF2 0xEE#8 .xri ∧ PerformsF2 0xF6#8 .ori ∧ PerformsF2 0xFE#8 .cpi ∧
  (∀ r : RegM, PerformsF1 (0b10111#5 ++ r.field) (.aluOf .cmp r)) ∧
  (∀ (s : State) (v : Byte),
    exec (.ani v) s = .next { s with
      regs := { s.regs with a := s.regs.a &&& v },
      flags := resultFlags (s.regs.a &&& v) ((s.regs.a ||| v).getLsbD 3) false, tstates := s.figure 0xE6#8 true } ∧
    exec (.xri v) s = .next { s with
      regs := { s.regs with a := s.regs.a ^^^ v }, flags := resultFlags (s.regs.a ^^^ v) false false, tstates := s.figure 0xEE#8 true } ∧
    exec (.ori v) s = .next { s with
      regs := { s.regs with a := s.regs.a ||| v }, flags := resultFlags (s.regs.a ||| v) false false, tstates := s.figure 0xF6#8 true }) ∧
  ∀ (s : State) (r : RegM) (v w : Byte) (compared : Byte → Flags), v = s.operandValue r →
    compared = (fun x => { s := (s.regs.a - x).getLsbD 7, z := decide (s.regs.a = x)
                           ac := decide (x.toNat % 16 ≤ s.regs.a.toNat % 16)
                           p := evenOnes (s.regs.a - x), cy := decide (s.regs.a.toNat < x.toNat) }) →
    (s.operandReadable r = true → exec (.aluOf .cmp r) s = .next { s.afterOperand r with
      flags := compared v, tstates := s.figure (0b10111#5 ++ r.field) true }) ∧
    (s.operandReadable r = false → exec (.aluOf .cmp r) s = .fault (.accessViolation s.hl .read)) ∧
    exec (.cpi w) s = .next { s with flags := compared w, tstates := s.figure 0xFE#8 true }

/-- RLC and RRC rotate A by one bit, RAL and RAR rotate CY and A together; CY is the bit moved out and S Z AC P are
unchanged. CMA leaves A xor 0xFF (255 - A) and no flag changed; STC makes CY true; CMC inverts it. T = TSTATES (by
default 4), all else unchanged. The instructions are general knowledge the spec supplies (GK4). That T is the figure
of the parameter TSTATES is the spec's decision D21, with R380's numbers as defaults (GK8 where the source has none);
that an opcode without a condition reads the taken entry is the model's choice (log 6). -/
def Obligations.RotatesComplementAndCarry : Prop :=
  (∀ op ∈ [0x07#8, 0x0F#8, 0x17#8, 0x1F#8, 0x2F#8, 0x37#8, 0x3F#8], defaultFigures.figure op true = 4) ∧
  PerformsF1 0x07#8 .rlc ∧ PerformsF1 0x0F#8 .rrc ∧ PerformsF1 0x17#8 .ral ∧ PerformsF1 0x1F#8 .rar ∧
  PerformsF1 0x2F#8 .cma ∧ PerformsF1 0x37#8 .stc ∧ PerformsF1 0x3F#8 .cmc ∧
  ∀ (s : State) (a : Nat), a = s.regs.a.toNat →
    exec .rlc s = .next { s with
      regs := { s.regs with a := BitVec.ofNat 8 (a * 2 % 256 + a / 128) },
      flags := { s.flags with cy := decide (128 ≤ a) }, tstates := s.figure 0x07#8 true } ∧
    exec .rrc s = .next { s with
      regs := { s.regs with a := BitVec.ofNat 8 (a / 2 + a % 2 * 128) },
      flags := { s.flags with cy := decide (a % 2 = 1) }, tstates := s.figure 0x0F#8 true } ∧
    exec .ral s = .next { s with
      regs := { s.regs with a := BitVec.ofNat 8 (a * 2 % 256 + bit s.flags.cy) },
      flags := { s.flags with cy := decide (128 ≤ a) }, tstates := s.figure 0x17#8 true } ∧
    exec .rar s = .next { s with
      regs := { s.regs with a := BitVec.ofNat 8 (a / 2 + bit s.flags.cy * 128) },
      flags := { s.flags with cy := decide (a % 2 = 1) }, tstates := s.figure 0x1F#8 true } ∧
    exec .cma s = .next { s with regs := { s.regs with a := BitVec.ofNat 8 (255 - a) }, tstates := s.figure 0x2F#8 true } ∧
    exec .stc s = .next { s with flags := { s.flags with cy := true }, tstates := s.figure 0x37#8 true } ∧
    exec .cmc s = .next { s with flags := { s.flags with cy := !s.flags.cy }, tstates := s.figure 0x3F#8 true }

/-! ### Control transfer -/

/-- JMP and the alias 0xCB leave pc at their target, T = TSTATES (by default 10); PCHL leaves pc at HL, T = TSTATES
(by default 5); a conditional jump (NZ Z NC C PO PE P M: Z, CY, P or S being 0 or 1) leaves pc at its target with T =
TSTATES (by default 10) if the condition holds and otherwise changes only T, to T_JCC_NOT_TAKEN. Nothing else changes.
Opcodes and the condition encoding are general knowledge the spec supplies (GK5). The order of the two operand bytes
is the spec's decision D13 (log 13). That the operand is fetched whether or not the condition holds is its decision
D14. That T is the figure of the parameter TSTATES is the spec's decision D21, with R380's numbers as defaults (GK8
where the source has none); that an opcode without a condition reads the taken entry, and an alias that of its
documented opcode, is the model's choice (log 6). -/
def Obligations.JumpsGoToTheirTarget : Prop :=
  defaultFigures.figure 0xC3#8 true = 10 ∧ defaultFigures.figure 0xE9#8 true = 5 ∧
  (∀ cond : Cond, defaultFigures.figure (0b11#2 ++ cond.field ++ 0b010#3) true = 10) ∧
  State.reset.tJccNotTaken = 10 ∧
  PerformsF3 0xC3#8 .jmp ∧ PerformsF3 0xCB#8 .jmpAlias ∧ PerformsF1 0xE9#8 .pchl ∧
  (∀ cond : Cond, PerformsF3 (0b11#2 ++ cond.field ++ 0b010#3) (.jccOf cond)) ∧
  (∀ f : Flags, f.satisfies .nz = !f.z ∧ f.satisfies .z = f.z ∧ f.satisfies .nc = !f.cy ∧ f.satisfies .c = f.cy ∧
    f.satisfies .po = !f.p ∧ f.satisfies .pe = f.p ∧ f.satisfies .p = !f.s ∧ f.satisfies .m = f.s) ∧
  ∀ (s : State) (a : Word) (cond : Cond),
    exec (.jmp a) s = .next { s with pc := a, tstates := s.figure 0xC3#8 true } ∧
    exec (.jmpAlias a) s = .next { s with pc := a, tstates := s.figure 0xC3#8 true } ∧
    exec .pchl s = .next { s with pc := s.regs.h ++ s.regs.l, tstates := s.figure 0xE9#8 true } ∧
    (s.flags.satisfies cond = true → exec (.jccOf cond a) s = .next { s with pc := a, tstates := s.figure (0b11#2 ++ cond.field ++ 0b010#3) true }) ∧
    (s.flags.satisfies cond = false → exec (.jccOf cond a) s = .next { s with tstates := s.tJccNotTaken })

/-- 0xCD fetches its two operand bytes and performs CALL with pc past them: with sp - 1 and sp - 2 writable, pc's high
byte is stored at sp - 1 and its low byte at sp - 2, sp is lower by 2, pc is the target and T = TSTATES (by default
17), all else unchanged but the access marks; else AccessViolation of the first denied store. The order of the two
operand bytes and of the two stores is the spec's decision D13 (log 13). That T is the figure of the parameter TSTATES
is the spec's decision D21, with R380's numbers as defaults (GK8 where the source has none); that an opcode without a
condition reads the taken entry is the model's choice (log 6). -/
def Obligations.CallPushesReturnAddress : Prop :=
  defaultFigures.figure 0xCD#8 true = 17 ∧
  PerformsF3 0xCD#8 .call ∧
  ∀ (s : State) (a : Word),
    (s.allows (s.sp - 1) .write = true → s.allows (s.sp - 2) .write = true → exec (.call a) s =
      .next { (s.afterWrite (s.sp - 1) (highByte s.pc)).afterWrite (s.sp - 2) (lowByte s.pc) with
        sp := s.sp - 2, pc := a, tstates := s.figure 0xCD#8 true }) ∧
    FaultsAtFirstDenied s [(s.sp - 1, .write), (s.sp - 2, .write)] (exec (.call a) s)

/-- With both stack bytes writable, a conditional call whose condition holds and the aliases 0xDD, 0xED, 0xFD push pc
and go to their target, T = TSTATES (by default 17), and RST n pushes pc and goes to 8*n, T = TSTATES (by default 11);
nothing else changes but the access marks. With a stack byte denied they are the violation of the first denied store.
A conditional call whose condition fails only sets T = TSTATES (by default 11). General knowledge the spec supplies
(GK5) and decision D19. The order of the two operand bytes and of the two stores is the spec's decision D13 (log 13).
That the operand is fetched whether or not the condition holds is its decision D14. That T is the figure of the
parameter TSTATES is the spec's decision D21, with R380's numbers as defaults (GK8 where the source has none); that an
opcode without a condition reads the taken entry, and an alias that of its documented opcode, is the model's choice
(log 6). -/
def Obligations.ConditionalCallsAndRestarts : Prop :=
  (∀ cond : Cond, defaultFigures.figure (0b11#2 ++ cond.field ++ 0b100#3) true = 17 ∧
    defaultFigures.figure (0b11#2 ++ cond.field ++ 0b100#3) false = 11) ∧
  defaultFigures.figure 0xCD#8 true = 17 ∧
  (∀ n : Fin 8, defaultFigures.figure (BitVec.ofNat 8 (0xC7 + 8 * n.val)) true = 11) ∧
  (∀ cond : Cond, PerformsF3 (0b11#2 ++ cond.field ++ 0b100#3) (.cccOf cond)) ∧
  PerformsF3 0xDD#8 (.callAlias 1#2) ∧ PerformsF3 0xED#8 (.callAlias 2#2) ∧ PerformsF3 0xFD#8 (.callAlias 3#2) ∧
  (∀ n : Fin 8, PerformsF1 (BitVec.ofNat 8 (0xC7 + 8 * n.val)) (.rstOf n)) ∧
  ∀ (s : State) (a : Word) (cond : Cond) (pp : BitVec 2) (n : Fin 8),
    (s.pushable = true →
      (s.flags.satisfies cond = true → exec (.cccOf cond a) s = .next { s.afterPush s.pc with pc := a, tstates := s.figure (0b11#2 ++ cond.field ++ 0b100#3) true }) ∧
      exec (.callAlias pp a) s = .next { s.afterPush s.pc with pc := a, tstates := s.figure 0xCD#8 true } ∧
      exec (.rstOf n) s = .next { s.afterPush s.pc with pc := BitVec.ofNat 16 (8 * n.val), tstates := s.figure (BitVec.ofNat 8 (0xC7 + 8 * n.val)) true }) ∧
    (s.flags.satisfies cond = false → exec (.cccOf cond a) s = .next { s with tstates := s.figure (0b11#2 ++ cond.field ++ 0b100#3) false }) ∧
    (s.flags.satisfies cond = true →
      FaultsAtFirstDenied s [(s.sp - 1, .write), (s.sp - 2, .write)] (exec (.cccOf cond a) s)) ∧
    FaultsAtFirstDenied s [(s.sp - 1, .write), (s.sp - 2, .write)] (exec (.callAlias pp a) s) ∧
    FaultsAtFirstDenied s [(s.sp - 1, .write), (s.sp - 2, .write)] (exec (.rstOf n) s)

/-- With sp and sp + 1 readable, RET, the alias 0xD9 (T = TSTATES (by default 10)) and a conditional return whose
condition holds (T = TSTATES (by default 11)) leave pc at the word there, low byte first, and sp higher by 2; nothing
else changes but the access marks. With a byte denied they are the violation of the first denied read. A conditional
return whose condition fails only sets T = TSTATES (by default 5). General knowledge the spec supplies (GK5). The
order of the two reads is the spec's decision D13 (log 13). That T is the figure of the parameter TSTATES is the
spec's decision D21, with R380's numbers as defaults (GK8 where the source has none); that an opcode without a
condition reads the taken entry, and an alias that of its documented opcode, is the model's choice (log 6). -/
def Obligations.ReturnsPopTheirTarget : Prop :=
  (∀ cond : Cond, defaultFigures.figure (0b11#2 ++ cond.field ++ 0b000#3) true = 11 ∧
    defaultFigures.figure (0b11#2 ++ cond.field ++ 0b000#3) false = 5) ∧
  defaultFigures.figure 0xC9#8 true = 10 ∧
  PerformsF1 0xC9#8 .ret ∧ PerformsF1 0xD9#8 .retAlias ∧
  (∀ cond : Cond, PerformsF1 (0b11#2 ++ cond.field ++ 0b000#3) (.rccOf cond)) ∧
  ∀ (s : State) (cond : Cond) (w : Word), w = s.byteAt (s.sp + 1) ++ s.byteAt s.sp →
    (s.allows s.sp .read = true → s.allows (s.sp + 1) .read = true →
      exec .ret s = .next { (s.afterRead s.sp).afterRead (s.sp + 1) with sp := s.sp + 2, pc := w, tstates := s.figure 0xC9#8 true } ∧
      exec .retAlias s = .next { (s.afterRead s.sp).afterRead (s.sp + 1) with sp := s.sp + 2, pc := w, tstates := s.figure 0xC9#8 true } ∧
      (s.flags.satisfies cond = true → exec (.rccOf cond) s =
        .next { (s.afterRead s.sp).afterRead (s.sp + 1) with sp := s.sp + 2, pc := w, tstates := s.figure (0b11#2 ++ cond.field ++ 0b000#3) true })) ∧
    (s.flags.satisfies cond = false → exec (.rccOf cond) s = .next { s with tstates := s.figure (0b11#2 ++ cond.field ++ 0b000#3) false }) ∧
    FaultsAtFirstDenied s [(s.sp, .read), (s.sp + 1, .read)] (exec .ret s) ∧
    FaultsAtFirstDenied s [(s.sp, .read), (s.sp + 1, .read)] (exec .retAlias s) ∧
    (s.flags.satisfies cond = true → FaultsAtFirstDenied s [(s.sp, .read), (s.sp + 1, .read)] (exec (.rccOf cond) s))

/-! ### Stack, input and output, control -/

/-- 11pp0101 performs PUSH: with sp - 1 and sp - 2 writable the high register is stored at sp - 1, the low one at sp -
2 and sp is lower by 2, T = TSTATES (by default 11). 11pp0001 performs POP: with sp and sp + 1 readable the low
register is loaded from sp, the high one from sp + 1 and sp is higher by 2, T = TSTATES (by default 10). Nothing else
changes but the access marks. A denied access is the violation of the first denied, in that order. The order of the
stores and of the reads is the spec's decision D13 (log 13). That T is the figure of the parameter TSTATES is the
spec's decision D21, with R380's numbers as defaults (GK8 where the source has none); that an opcode without a
condition reads the taken entry is the model's choice (log 6). -/
def Obligations.PushAndPopPairs : Prop :=
  (∀ p : StackPair, defaultFigures.figure (0b11#2 ++ p.field ++ 0b0101#4) true = 11 ∧
    defaultFigures.figure (0b11#2 ++ p.field ++ 0b0001#4) true = 10) ∧
  (∀ p : StackPair, PerformsF1 (0b11#2 ++ p.field ++ 0b0101#4) (.pushOf p) ∧
    PerformsF1 (0b11#2 ++ p.field ++ 0b0001#4) (.popOf p)) ∧
  ∀ s : State,
    (s.allows (s.sp - 1) .write = true → s.allows (s.sp - 2) .write = true →
      exec .pushB s = .next { (s.afterWrite (s.sp - 1) s.regs.b).afterWrite (s.sp - 2) s.regs.c with sp := s.sp - 2, tstates := s.figure 0xC5#8 true } ∧
      exec .pushD s = .next { (s.afterWrite (s.sp - 1) s.regs.d).afterWrite (s.sp - 2) s.regs.e with sp := s.sp - 2, tstates := s.figure 0xD5#8 true } ∧
      exec .pushH s = .next { (s.afterWrite (s.sp - 1) s.regs.h).afterWrite (s.sp - 2) s.regs.l with sp := s.sp - 2, tstates := s.figure 0xE5#8 true }) ∧
    (∀ p : StackPair, FaultsAtFirstDenied s [(s.sp - 1, .write), (s.sp - 2, .write)] (exec (.pushOf p) s)) ∧
    (s.allows s.sp .read = true → s.allows (s.sp + 1) .read = true →
      exec .popB s = .next { (s.afterRead s.sp).afterRead (s.sp + 1) with
        regs := { s.regs with c := s.byteAt s.sp, b := s.byteAt (s.sp + 1) }, sp := s.sp + 2, tstates := s.figure 0xC1#8 true } ∧
      exec .popD s = .next { (s.afterRead s.sp).afterRead (s.sp + 1) with
        regs := { s.regs with e := s.byteAt s.sp, d := s.byteAt (s.sp + 1) }, sp := s.sp + 2, tstates := s.figure 0xD1#8 true } ∧
      exec .popH s = .next { (s.afterRead s.sp).afterRead (s.sp + 1) with
        regs := { s.regs with l := s.byteAt s.sp, h := s.byteAt (s.sp + 1) }, sp := s.sp + 2, tstates := s.figure 0xE1#8 true }) ∧
    ∀ p : StackPair, FaultsAtFirstDenied s [(s.sp, .read), (s.sp + 1, .read)] (exec (.popOf p) s)

/-- PUSH PSW stores A at sp - 1 and the packed status byte at sp - 2, sp lower by 2, T = TSTATES (by default 11); POP
PSW takes the flags from bits 7, 6, 4, 2, 0 of the byte at sp and A from sp + 1, sp higher by 2, T = TSTATES (by
default 10); nothing else changes but the access marks; a denied access is the violation of the first denied. PUSH
PSW, any change of A and the flags, then POP PSW restores A, all five flags and sp. Flag positions are the spec's
decision D4. The order of the stores and of the reads is the spec's decision D13 (log 13). That T is the figure of the
parameter TSTATES is the spec's decision D21, with R380's numbers as defaults (GK8 where the source has none); that an
opcode without a condition reads the taken entry is the model's choice (log 6). -/
def Obligations.PushAndPopStatus : Prop :=
  defaultFigures.figure 0xF5#8 true = 11 ∧ defaultFigures.figure 0xF1#8 true = 10 ∧
  PerformsF1 0xF5#8 .pushPSW ∧ PerformsF1 0xF1#8 .popPSW ∧
  (∀ s : State, s.pushable = true → exec .pushPSW s =
    .next { (s.afterWrite (s.sp - 1) s.regs.a).afterWrite (s.sp - 2) (packPSW s.flags) with sp := s.sp - 2, tstates := s.figure 0xF5#8 true }) ∧
  (∀ s : State, FaultsAtFirstDenied s [(s.sp - 1, .write), (s.sp - 2, .write)] (exec .pushPSW s)) ∧
  (∀ s : State, s.poppable = true → exec .popPSW s =
    .next { (s.afterRead s.sp).afterRead (s.sp + 1) with
      regs := { s.regs with a := s.byteAt (s.sp + 1) },
      flags := { s := (s.byteAt s.sp).getLsbD 7, z := (s.byteAt s.sp).getLsbD 6, ac := (s.byteAt s.sp).getLsbD 4,
                 p := (s.byteAt s.sp).getLsbD 2, cy := (s.byteAt s.sp).getLsbD 0 },
      sp := s.sp + 2, tstates := s.figure 0xF1#8 true }) ∧
  (∀ s : State, FaultsAtFirstDenied s [(s.sp, .read), (s.sp + 1, .read)] (exec .popPSW s)) ∧
  ∀ (s t t' u : State) (a : Byte) (f : Flags), s.mem.wf = true → exec .pushPSW s = .next t →
    t' = { t with regs := { t.regs with a := a }, flags := f } → exec .popPSW t' = .next u →
    u.regs.a = s.regs.a ∧ u.flags = s.flags ∧ u.sp = s.sp

/-- With sp and sp + 1 readable and writable XTHL leaves the old L at sp and the old H at sp + 1, the old bytes there
in L and H, T = TSTATES (by default 18), sp unchanged; with an access denied it is the violation of the first denied
of read sp, read sp + 1, write sp, write sp + 1. SPHL leaves HL in sp, T = TSTATES (by default 5). Nothing else
changes but the access marks. General knowledge the spec supplies (GK6). The order of the reads and writes is the
spec's decision D13 (log 13). That T is the figure of the parameter TSTATES is the spec's decision D21, with R380's
numbers as defaults (GK8 where the source has none); that an opcode without a condition reads the taken entry is the
model's choice (log 6). -/
def Obligations.StackTopExchangeAndSphl : Prop :=
  defaultFigures.figure 0xE3#8 true = 18 ∧ defaultFigures.figure 0xF9#8 true = 5 ∧
  PerformsF1 0xE3#8 .xthl ∧ PerformsF1 0xF9#8 .sphl ∧
  ∀ s : State,
    (s.firstDenied [(s.sp, .read), (s.sp + 1, .read), (s.sp, .write), (s.sp + 1, .write)] = none → exec .xthl s =
      .next { (((s.afterRead s.sp).afterRead (s.sp + 1)).afterWrite s.sp s.regs.l).afterWrite (s.sp + 1) s.regs.h with
        regs := { s.regs with l := s.byteAt s.sp, h := s.byteAt (s.sp + 1) }, tstates := s.figure 0xE3#8 true }) ∧
    FaultsAtFirstDenied s [(s.sp, .read), (s.sp + 1, .read), (s.sp, .write), (s.sp + 1, .write)] (exec .xthl s) ∧
    exec .sphl s = .next { s with sp := s.regs.h ++ s.regs.l, tstates := s.figure 0xF9#8 true }

/-- 0xDB and 0xD3 fetch the port byte. IN always completes: A becomes a byte v from the device, the event In(port, v)
is recorded and T = TSTATES (by default 10), nothing else changes but the device's own bookkeeping; v is 0 with the
source's default device, the next byte of a scripted device, else a free value. OUT records the event Out(port, A) and
T = TSTATES (by default 10), A and all else unchanged. What a device answers is the spec's decision D2 (a draw); the
scripted device, the free value Config.deviceInput and the counter of draws are the model's choice (log 4). That T is
the figure of the parameter TSTATES is the spec's decision D21, with R380's numbers as defaults (GK8 where the source
has none); that an opcode without a condition reads the taken entry is the model's choice (log 6). -/
def Obligations.PortInputAndOutput : Prop :=
  defaultFigures.figure 0xDB#8 true = 10 ∧ defaultFigures.figure 0xD3#8 true = 10 ∧
  PerformsF2 0xDB#8 .inPort ∧ PerformsF2 0xD3#8 .outPort ∧
  ∀ (s : State) (port : Byte),
    (∃ t v, exec (.inPort port) s = .next t ∧ t.regs = { s.regs with a := v } ∧ t.events = s.events ++ [.input port v] ∧
      t.tstates = s.figure 0xDB#8 true ∧
      { t with regs := s.regs, events := s.events, tstates := s.tstates, device := s.device, draws := s.draws } = s) ∧
    (s.device = .silent → exec (.inPort port) s = .next { s with
      regs := { s.regs with a := 0x00#8 }, events := s.events ++ [.input port 0x00#8], tstates := s.figure 0xDB#8 true }) ∧
    (∀ (v : Byte) (script : List Byte), s.device = .answering (v :: script) → exec (.inPort port) s = .next { s with
      regs := { s.regs with a := v }, events := s.events ++ [.input port v], device := .answering script, tstates := s.figure 0xDB#8 true }) ∧
    (∀ v : Byte, s.device = .answering [] → v = Config.deviceInput s.draws port → exec (.inPort port) s = .next { s with
      regs := { s.regs with a := v }, events := s.events ++ [.input port v], draws := s.draws + 1, tstates := s.figure 0xDB#8 true }) ∧
    exec (.outPort port) s = .next { s with events := s.events ++ [.output port s.regs.a], tstates := s.figure 0xD3#8 true }

/-- EI makes INTE true and DI false, each recording the notification of the new value whether or not it changed, T =
TSTATES (by default 4); HLT leaves pc minus 1 mod 65536, T = TSTATES (by default 7); NOP (0x00) and the seven aliases
00nnn000 change nothing but T = TSTATES (by default 4). That EI acts at once is the spec's decision D10; NOP, its
aliases and the figures are general knowledge the spec supplies. That T is the figure of the parameter TSTATES is the
spec's decision D21, with R380's numbers as defaults (GK8 where the source has none); that an opcode without a
condition reads the taken entry, and an alias that of its documented opcode, is the model's choice (log 6). -/
def Obligations.EnableHaltAndNoOperation : Prop :=
  defaultFigures.figure 0xFB#8 true = 4 ∧ defaultFigures.figure 0xF3#8 true = 4 ∧
  defaultFigures.figure 0x76#8 true = 7 ∧ defaultFigures.figure 0x00#8 true = 4 ∧
  PerformsF1 0xFB#8 .ei ∧ PerformsF1 0xF3#8 .di ∧ PerformsF1 0x76#8 .hlt ∧ PerformsF1 0x00#8 .nop ∧
  (∀ nnn : BitVec 3, nnn ≠ 0#3 → PerformsF1 (0b00#2 ++ nnn ++ 0b000#3) (.nopAlias nnn)) ∧
  ∀ (s : State) (nnn : BitVec 3),
    exec .ei s = .next { s with inte := true, events := s.events ++ [.inte true], tstates := s.figure 0xFB#8 true } ∧
    exec .di s = .next { s with inte := false, events := s.events ++ [.inte false], tstates := s.figure 0xF3#8 true } ∧
    exec .hlt s = .next { s with pc := BitVec.ofNat 16 (s.pc.toNat + 65535), tstates := s.figure 0x76#8 true } ∧
    exec .nop s = .next { s with tstates := s.figure 0x00#8 true } ∧ exec (.nopAlias nnn) s = .next { s with tstates := s.figure 0x00#8 true }

/-! ### The figure a step returns -/

/-- For every table TSTATES and every opcode byte whose instruction has no condition: if Execute(op) answers next t, T
is the taken figure of the opcode, for one of the twelve alias bytes that of the documented opcode it is performed as.
For a conditional return or call T is the taken or the not-taken figure of its opcode as the condition holds or fails;
for a conditional jump the taken figure or T_JCC_NOT_TAKEN. That an opcode without a condition reads the taken figure
is the model's choice (log 6); TSTATES as a parameter is the spec's decision D21. -/
def Obligations.PerformedOpcodeReturnsItsFigure : Prop :=
  (∀ (op : Byte) (s t : State), hasCondition op = false → executeOpcode op s = .next t →
    t.tstates = s.figure (documentedOpcode op) true) ∧
  ∀ (cond : Cond) (s t : State),
    (executeOpcode (0b11#2 ++ cond.field ++ 0b000#3) s = .next t →
      t.tstates = s.figure (0b11#2 ++ cond.field ++ 0b000#3) (s.flags.satisfies cond)) ∧
    (executeOpcode (0b11#2 ++ cond.field ++ 0b100#3) s = .next t →
      t.tstates = s.figure (0b11#2 ++ cond.field ++ 0b100#3) (s.flags.satisfies cond)) ∧
    (executeOpcode (0b11#2 ++ cond.field ++ 0b010#3) s = .next t →
      t.tstates = if s.flags.satisfies cond = true then s.figure (0b11#2 ++ cond.field ++ 0b010#3) true
        else s.tJccNotTaken)
end

