-- ==== Sys2Proof/Laws/Alu.lean ====
section
/-! SUPPORT. The ALU's parts against the spec's equivalent forms: parity, and the two auxiliary-carry tables as the carry
and the borrow out of bit 3 (41_arithmetic.md R172, R173). -/

namespace Sys2Proof.Machine

/-- A property of all bytes from its 16 times 16 cases. -/
theorem forall_byte {P : Byte → Prop} (h : ∀ m n : Fin 16, P (BitVec.ofFin ⟨16 * m.val + n.val, by omega⟩)) (b : Byte) : P b := by
  have e : b = BitVec.ofFin ⟨16 * (b.toNat / 16) + b.toNat % 16, by have := b.isLt; omega⟩ := by
    apply BitVec.eq_of_toNat_eq
    simp only [BitVec.toNat_ofFin]
    omega
  rw [e]
  exact h ⟨b.toNat / 16, by have := b.isLt; omega⟩ ⟨b.toNat % 16, by omega⟩

theorem evenOnes_eq_parity (r : Byte) : evenOnes r = parity r :=
  forall_byte (P := fun r => evenOnes r = parity r) (by decide) r

theorem getLsbD_seven_eq (r : Byte) : r.getLsbD 7 = decide (128 ≤ r.toNat) :=
  forall_byte (P := fun r => r.getLsbD 7 = decide (128 ≤ r.toNat)) (by decide) r

/-- `SetSZP` sets the flags of the result, `AC` and `CY` as given. -/
theorem setSZP_eq_resultFlags (f : Flags) (r : Byte) (ac cy : Bool) :
    { f.setSZP r with ac := ac, cy := cy } = resultFlags r ac cy := by
  have hz : (r == 0x00#8) = decide (r.toNat = 0) := by
    rw [Bool.eq_iff_iff]
    simp [BitVec.toNat_eq]
  simp only [Flags.setSZP, resultFlags, evenOnes_eq_parity, getLsbD_seven_eq, hz]

theorem testBit_three_mod (x : Nat) : x.testBit 3 = (x % 16).testBit 3 := by
  rw [show (16 : Nat) = 2 ^ 4 from rfl, Nat.testBit_mod_two_pow]
  simp

/-- The table key depends on the low nibbles alone. -/
theorem acKey_eq_nibbles (a v : Byte) (t : Nat) :
    acKey a v t = BitVec.ofBool ((a.toNat % 16).testBit 3) ++ BitVec.ofBool ((v.toNat % 16).testBit 3)
      ++ BitVec.ofBool ((t % 16).testBit 3) := by
  rw [acKey, BitVec.getLsbD, BitVec.getLsbD, testBit_three_mod a.toNat, testBit_three_mod v.toNat, testBit_three_mod t]

/-- `ADD_AC` is the carry out of bit 3. -/
theorem addAc_acKey (a v : Byte) (cin : Bool) :
    addAc (acKey a v (a.toNat + v.toNat + bit cin)) = decide (15 < a.toNat % 16 + v.toNat % 16 + bit cin) := by
  have key : ∀ (m n : Fin 16) (c : Bool),
      addAc (BitVec.ofBool (m.val.testBit 3) ++ BitVec.ofBool (n.val.testBit 3)
        ++ BitVec.ofBool (((m.val + n.val + bit c) % 16).testBit 3)) = decide (15 < m.val + n.val + bit c) := by decide
  have := key ⟨a.toNat % 16, Nat.mod_lt _ (by decide)⟩ ⟨v.toNat % 16, Nat.mod_lt _ (by decide)⟩ cin
  rw [acKey_eq_nibbles, show (a.toNat + v.toNat + bit cin) % 16 = (a.toNat % 16 + v.toNat % 16 + bit cin) % 16 by omega]
  exact this

/-- `SUB_BORROW` is the borrow out of bit 3. -/
theorem subBorrow_acKey (a v : Byte) (bin : Bool) :
    subBorrow (acKey a v ((a.toNat + 512 - v.toNat - bit bin) % 512)) = decide (a.toNat % 16 < v.toNat % 16 + bit bin) := by
  have key : ∀ (m n : Fin 16) (c : Bool),
      subBorrow (BitVec.ofBool (m.val.testBit 3) ++ BitVec.ofBool (n.val.testBit 3)
        ++ BitVec.ofBool (((m.val + 32 - n.val - bit c) % 16).testBit 3)) = decide (m.val < n.val + bit c) := by decide
  have := key ⟨a.toNat % 16, Nat.mod_lt _ (by decide)⟩ ⟨v.toNat % 16, Nat.mod_lt _ (by decide)⟩ bin
  have hb : bit bin ≤ 1 := by cases bin <;> decide
  have hv := v.isLt
  rw [acKey_eq_nibbles, show ((a.toNat + 512 - v.toNat - bit bin) % 512) % 16
    = (a.toNat % 16 + 32 - v.toNat % 16 - bit bin) % 16 by omega]
  exact this

/-- The 9-bit difference, taken mod 256. -/
theorem difference_eq_ofNat (a v : Byte) (bin : Bool) :
    BitVec.ofNat 8 ((a.toNat + 512 - v.toNat - bit bin) % 512) = difference a v bin := by
  have hb : bit bin ≤ 1 := by cases bin <;> decide
  have hv := v.isLt
  have ha := a.isLt
  apply BitVec.eq_of_toNat_eq
  simp only [difference, BitVec.toNat_sub, BitVec.toNat_ofNat]
  omega

/-- Bit 8 of the 9-bit difference is the borrow. -/
theorem borrow_eq (a v : Byte) (bin : Bool) :
    decide (256 ≤ (a.toNat + 512 - v.toNat - bit bin) % 512) = decide (a.toNat < v.toNat + bit bin) := by
  have hb : bit bin ≤ 1 := by cases bin <;> decide
  have hv := v.isLt
  have ha := a.isLt
  rw [decide_eq_decide]
  omega

end Sys2Proof.Machine
end

