-- ==== Sys2Proof/Laws/State.lean ====
section
/-! SUPPORT. What each named update does to each field of State: one lemma per field per update, by definition. -/

namespace Sys2Proof.Machine

variable (s : State)

/-! ### `State.setReg` -/

@[simp] theorem State.setReg_regs (r : Reg) (v : Byte) : (s.setReg r v).regs = s.regs.set r v := rfl
@[simp] theorem State.setReg_flags (r : Reg) (v : Byte) : (s.setReg r v).flags = s.flags := rfl
@[simp] theorem State.setReg_pc (r : Reg) (v : Byte) : (s.setReg r v).pc = s.pc := rfl
@[simp] theorem State.setReg_sp (r : Reg) (v : Byte) : (s.setReg r v).sp = s.sp := rfl
@[simp] theorem State.setReg_inte (r : Reg) (v : Byte) : (s.setReg r v).inte = s.inte := rfl
@[simp] theorem State.setReg_intPending (r : Reg) (v : Byte) : (s.setReg r v).intPending = s.intPending := rfl
@[simp] theorem State.setReg_intVector (r : Reg) (v : Byte) : (s.setReg r v).intVector = s.intVector := rfl
@[simp] theorem State.setReg_mem (r : Reg) (v : Byte) : (s.setReg r v).mem = s.mem := rfl
@[simp] theorem State.setReg_readMarks (r : Reg) (v : Byte) : (s.setReg r v).readMarks = s.readMarks := rfl
@[simp] theorem State.setReg_writeMarks (r : Reg) (v : Byte) : (s.setReg r v).writeMarks = s.writeMarks := rfl
@[simp] theorem State.setReg_variant (r : Reg) (v : Byte) : (s.setReg r v).variant = s.variant := rfl
@[simp] theorem State.setReg_marking (r : Reg) (v : Byte) : (s.setReg r v).marking = s.marking := rfl
@[simp] theorem State.setReg_figures (r : Reg) (v : Byte) : (s.setReg r v).figures = s.figures := rfl
@[simp] theorem State.setReg_figure (r : Reg) (v : Byte) (o : Byte) (k : Bool) : (s.setReg r v).figure o k = s.figure o k := rfl
@[simp] theorem State.setReg_tJccNotTaken (r : Reg) (v : Byte) : (s.setReg r v).tJccNotTaken = s.tJccNotTaken := rfl
@[simp] theorem State.setReg_device (r : Reg) (v : Byte) : (s.setReg r v).device = s.device := rfl
@[simp] theorem State.setReg_tstates (r : Reg) (v : Byte) : (s.setReg r v).tstates = s.tstates := rfl
@[simp] theorem State.setReg_events (r : Reg) (v : Byte) : (s.setReg r v).events = s.events := rfl
@[simp] theorem State.setReg_draws (r : Reg) (v : Byte) : (s.setReg r v).draws = s.draws := rfl
@[simp] theorem State.setReg_allows (r : Reg) (v : Byte) (x : Word) (dir : Direction) : (s.setReg r v).allows x dir = s.allows x dir := rfl
@[simp] theorem State.setReg_byteAt (r : Reg) (v : Byte) (x : Word) : (s.setReg r v).byteAt x = s.byteAt x := rfl

/-! ### `State.setCy` -/

@[simp] theorem State.setCy_regs (v : Bool) : (s.setCy v).regs = s.regs := rfl
@[simp] theorem State.setCy_flags (v : Bool) : (s.setCy v).flags = { s.flags with cy := v } := rfl
@[simp] theorem State.setCy_pc (v : Bool) : (s.setCy v).pc = s.pc := rfl
@[simp] theorem State.setCy_sp (v : Bool) : (s.setCy v).sp = s.sp := rfl
@[simp] theorem State.setCy_inte (v : Bool) : (s.setCy v).inte = s.inte := rfl
@[simp] theorem State.setCy_intPending (v : Bool) : (s.setCy v).intPending = s.intPending := rfl
@[simp] theorem State.setCy_intVector (v : Bool) : (s.setCy v).intVector = s.intVector := rfl
@[simp] theorem State.setCy_mem (v : Bool) : (s.setCy v).mem = s.mem := rfl
@[simp] theorem State.setCy_readMarks (v : Bool) : (s.setCy v).readMarks = s.readMarks := rfl
@[simp] theorem State.setCy_writeMarks (v : Bool) : (s.setCy v).writeMarks = s.writeMarks := rfl
@[simp] theorem State.setCy_variant (v : Bool) : (s.setCy v).variant = s.variant := rfl
@[simp] theorem State.setCy_marking (v : Bool) : (s.setCy v).marking = s.marking := rfl
@[simp] theorem State.setCy_figures (v : Bool) : (s.setCy v).figures = s.figures := rfl
@[simp] theorem State.setCy_figure (v : Bool) (o : Byte) (k : Bool) : (s.setCy v).figure o k = s.figure o k := rfl
@[simp] theorem State.setCy_tJccNotTaken (v : Bool) : (s.setCy v).tJccNotTaken = s.tJccNotTaken := rfl
@[simp] theorem State.setCy_device (v : Bool) : (s.setCy v).device = s.device := rfl
@[simp] theorem State.setCy_tstates (v : Bool) : (s.setCy v).tstates = s.tstates := rfl
@[simp] theorem State.setCy_events (v : Bool) : (s.setCy v).events = s.events := rfl
@[simp] theorem State.setCy_draws (v : Bool) : (s.setCy v).draws = s.draws := rfl
@[simp] theorem State.setCy_allows (v : Bool) (x : Word) (dir : Direction) : (s.setCy v).allows x dir = s.allows x dir := rfl
@[simp] theorem State.setCy_byteAt (v : Bool) (x : Word) : (s.setCy v).byteAt x = s.byteAt x := rfl

/-! ### `State.setPc` -/

@[simp] theorem State.setPc_regs (a : Word) : (s.setPc a).regs = s.regs := rfl
@[simp] theorem State.setPc_flags (a : Word) : (s.setPc a).flags = s.flags := rfl
@[simp] theorem State.setPc_pc (a : Word) : (s.setPc a).pc = a := rfl
@[simp] theorem State.setPc_sp (a : Word) : (s.setPc a).sp = s.sp := rfl
@[simp] theorem State.setPc_inte (a : Word) : (s.setPc a).inte = s.inte := rfl
@[simp] theorem State.setPc_intPending (a : Word) : (s.setPc a).intPending = s.intPending := rfl
@[simp] theorem State.setPc_intVector (a : Word) : (s.setPc a).intVector = s.intVector := rfl
@[simp] theorem State.setPc_mem (a : Word) : (s.setPc a).mem = s.mem := rfl
@[simp] theorem State.setPc_readMarks (a : Word) : (s.setPc a).readMarks = s.readMarks := rfl
@[simp] theorem State.setPc_writeMarks (a : Word) : (s.setPc a).writeMarks = s.writeMarks := rfl
@[simp] theorem State.setPc_variant (a : Word) : (s.setPc a).variant = s.variant := rfl
@[simp] theorem State.setPc_marking (a : Word) : (s.setPc a).marking = s.marking := rfl
@[simp] theorem State.setPc_figures (a : Word) : (s.setPc a).figures = s.figures := rfl
@[simp] theorem State.setPc_figure (a : Word) (o : Byte) (k : Bool) : (s.setPc a).figure o k = s.figure o k := rfl
@[simp] theorem State.setPc_tJccNotTaken (a : Word) : (s.setPc a).tJccNotTaken = s.tJccNotTaken := rfl
@[simp] theorem State.setPc_device (a : Word) : (s.setPc a).device = s.device := rfl
@[simp] theorem State.setPc_tstates (a : Word) : (s.setPc a).tstates = s.tstates := rfl
@[simp] theorem State.setPc_events (a : Word) : (s.setPc a).events = s.events := rfl
@[simp] theorem State.setPc_draws (a : Word) : (s.setPc a).draws = s.draws := rfl
@[simp] theorem State.setPc_allows (a : Word) (x : Word) (dir : Direction) : (s.setPc a).allows x dir = s.allows x dir := rfl
@[simp] theorem State.setPc_byteAt (a : Word) (x : Word) : (s.setPc a).byteAt x = s.byteAt x := rfl

/-! ### `State.setSp` -/

@[simp] theorem State.setSp_regs (a : Word) : (s.setSp a).regs = s.regs := rfl
@[simp] theorem State.setSp_flags (a : Word) : (s.setSp a).flags = s.flags := rfl
@[simp] theorem State.setSp_pc (a : Word) : (s.setSp a).pc = s.pc := rfl
@[simp] theorem State.setSp_sp (a : Word) : (s.setSp a).sp = a := rfl
@[simp] theorem State.setSp_inte (a : Word) : (s.setSp a).inte = s.inte := rfl
@[simp] theorem State.setSp_intPending (a : Word) : (s.setSp a).intPending = s.intPending := rfl
@[simp] theorem State.setSp_intVector (a : Word) : (s.setSp a).intVector = s.intVector := rfl
@[simp] theorem State.setSp_mem (a : Word) : (s.setSp a).mem = s.mem := rfl
@[simp] theorem State.setSp_readMarks (a : Word) : (s.setSp a).readMarks = s.readMarks := rfl
@[simp] theorem State.setSp_writeMarks (a : Word) : (s.setSp a).writeMarks = s.writeMarks := rfl
@[simp] theorem State.setSp_variant (a : Word) : (s.setSp a).variant = s.variant := rfl
@[simp] theorem State.setSp_marking (a : Word) : (s.setSp a).marking = s.marking := rfl
@[simp] theorem State.setSp_figures (a : Word) : (s.setSp a).figures = s.figures := rfl
@[simp] theorem State.setSp_figure (a : Word) (o : Byte) (k : Bool) : (s.setSp a).figure o k = s.figure o k := rfl
@[simp] theorem State.setSp_tJccNotTaken (a : Word) : (s.setSp a).tJccNotTaken = s.tJccNotTaken := rfl
@[simp] theorem State.setSp_device (a : Word) : (s.setSp a).device = s.device := rfl
@[simp] theorem State.setSp_tstates (a : Word) : (s.setSp a).tstates = s.tstates := rfl
@[simp] theorem State.setSp_events (a : Word) : (s.setSp a).events = s.events := rfl
@[simp] theorem State.setSp_draws (a : Word) : (s.setSp a).draws = s.draws := rfl
@[simp] theorem State.setSp_allows (a : Word) (x : Word) (dir : Direction) : (s.setSp a).allows x dir = s.allows x dir := rfl
@[simp] theorem State.setSp_byteAt (a : Word) (x : Word) : (s.setSp a).byteAt x = s.byteAt x := rfl

/-! ### `State.setInte` -/

@[simp] theorem State.setInte_regs (v : Bool) : (s.setInte v).regs = s.regs := rfl
@[simp] theorem State.setInte_flags (v : Bool) : (s.setInte v).flags = s.flags := rfl
@[simp] theorem State.setInte_pc (v : Bool) : (s.setInte v).pc = s.pc := rfl
@[simp] theorem State.setInte_sp (v : Bool) : (s.setInte v).sp = s.sp := rfl
@[simp] theorem State.setInte_inte (v : Bool) : (s.setInte v).inte = v := rfl
@[simp] theorem State.setInte_intPending (v : Bool) : (s.setInte v).intPending = s.intPending := rfl
@[simp] theorem State.setInte_intVector (v : Bool) : (s.setInte v).intVector = s.intVector := rfl
@[simp] theorem State.setInte_mem (v : Bool) : (s.setInte v).mem = s.mem := rfl
@[simp] theorem State.setInte_readMarks (v : Bool) : (s.setInte v).readMarks = s.readMarks := rfl
@[simp] theorem State.setInte_writeMarks (v : Bool) : (s.setInte v).writeMarks = s.writeMarks := rfl
@[simp] theorem State.setInte_variant (v : Bool) : (s.setInte v).variant = s.variant := rfl
@[simp] theorem State.setInte_marking (v : Bool) : (s.setInte v).marking = s.marking := rfl
@[simp] theorem State.setInte_figures (v : Bool) : (s.setInte v).figures = s.figures := rfl
@[simp] theorem State.setInte_figure (v : Bool) (o : Byte) (k : Bool) : (s.setInte v).figure o k = s.figure o k := rfl
@[simp] theorem State.setInte_tJccNotTaken (v : Bool) : (s.setInte v).tJccNotTaken = s.tJccNotTaken := rfl
@[simp] theorem State.setInte_device (v : Bool) : (s.setInte v).device = s.device := rfl
@[simp] theorem State.setInte_tstates (v : Bool) : (s.setInte v).tstates = s.tstates := rfl
@[simp] theorem State.setInte_events (v : Bool) : (s.setInte v).events = s.events := rfl
@[simp] theorem State.setInte_draws (v : Bool) : (s.setInte v).draws = s.draws := rfl
@[simp] theorem State.setInte_allows (v : Bool) (x : Word) (dir : Direction) : (s.setInte v).allows x dir = s.allows x dir := rfl
@[simp] theorem State.setInte_byteAt (v : Bool) (x : Word) : (s.setInte v).byteAt x = s.byteAt x := rfl

/-! ### `State.setFlags` -/

@[simp] theorem State.setFlags_regs (f : Flags) : (s.setFlags f).regs = s.regs := rfl
@[simp] theorem State.setFlags_flags (f : Flags) : (s.setFlags f).flags = f := rfl
@[simp] theorem State.setFlags_pc (f : Flags) : (s.setFlags f).pc = s.pc := rfl
@[simp] theorem State.setFlags_sp (f : Flags) : (s.setFlags f).sp = s.sp := rfl
@[simp] theorem State.setFlags_inte (f : Flags) : (s.setFlags f).inte = s.inte := rfl
@[simp] theorem State.setFlags_intPending (f : Flags) : (s.setFlags f).intPending = s.intPending := rfl
@[simp] theorem State.setFlags_intVector (f : Flags) : (s.setFlags f).intVector = s.intVector := rfl
@[simp] theorem State.setFlags_mem (f : Flags) : (s.setFlags f).mem = s.mem := rfl
@[simp] theorem State.setFlags_readMarks (f : Flags) : (s.setFlags f).readMarks = s.readMarks := rfl
@[simp] theorem State.setFlags_writeMarks (f : Flags) : (s.setFlags f).writeMarks = s.writeMarks := rfl
@[simp] theorem State.setFlags_variant (f : Flags) : (s.setFlags f).variant = s.variant := rfl
@[simp] theorem State.setFlags_marking (f : Flags) : (s.setFlags f).marking = s.marking := rfl
@[simp] theorem State.setFlags_figures (f : Flags) : (s.setFlags f).figures = s.figures := rfl
@[simp] theorem State.setFlags_figure (f : Flags) (o : Byte) (k : Bool) : (s.setFlags f).figure o k = s.figure o k := rfl
@[simp] theorem State.setFlags_tJccNotTaken (f : Flags) : (s.setFlags f).tJccNotTaken = s.tJccNotTaken := rfl
@[simp] theorem State.setFlags_device (f : Flags) : (s.setFlags f).device = s.device := rfl
@[simp] theorem State.setFlags_tstates (f : Flags) : (s.setFlags f).tstates = s.tstates := rfl
@[simp] theorem State.setFlags_events (f : Flags) : (s.setFlags f).events = s.events := rfl
@[simp] theorem State.setFlags_draws (f : Flags) : (s.setFlags f).draws = s.draws := rfl
@[simp] theorem State.setFlags_allows (f : Flags) (x : Word) (dir : Direction) : (s.setFlags f).allows x dir = s.allows x dir := rfl
@[simp] theorem State.setFlags_byteAt (f : Flags) (x : Word) : (s.setFlags f).byteAt x = s.byteAt x := rfl

/-! ### `State.withT` -/

@[simp] theorem State.withT_regs (n : Nat) : (s.withT n).regs = s.regs := rfl
@[simp] theorem State.withT_flags (n : Nat) : (s.withT n).flags = s.flags := rfl
@[simp] theorem State.withT_pc (n : Nat) : (s.withT n).pc = s.pc := rfl
@[simp] theorem State.withT_sp (n : Nat) : (s.withT n).sp = s.sp := rfl
@[simp] theorem State.withT_inte (n : Nat) : (s.withT n).inte = s.inte := rfl
@[simp] theorem State.withT_intPending (n : Nat) : (s.withT n).intPending = s.intPending := rfl
@[simp] theorem State.withT_intVector (n : Nat) : (s.withT n).intVector = s.intVector := rfl
@[simp] theorem State.withT_mem (n : Nat) : (s.withT n).mem = s.mem := rfl
@[simp] theorem State.withT_readMarks (n : Nat) : (s.withT n).readMarks = s.readMarks := rfl
@[simp] theorem State.withT_writeMarks (n : Nat) : (s.withT n).writeMarks = s.writeMarks := rfl
@[simp] theorem State.withT_variant (n : Nat) : (s.withT n).variant = s.variant := rfl
@[simp] theorem State.withT_marking (n : Nat) : (s.withT n).marking = s.marking := rfl
@[simp] theorem State.withT_figures (n : Nat) : (s.withT n).figures = s.figures := rfl
@[simp] theorem State.withT_figure (n : Nat) (o : Byte) (k : Bool) : (s.withT n).figure o k = s.figure o k := rfl
@[simp] theorem State.withT_tJccNotTaken (n : Nat) : (s.withT n).tJccNotTaken = s.tJccNotTaken := rfl
@[simp] theorem State.withT_device (n : Nat) : (s.withT n).device = s.device := rfl
@[simp] theorem State.withT_tstates (n : Nat) : (s.withT n).tstates = n := rfl
@[simp] theorem State.withT_events (n : Nat) : (s.withT n).events = s.events := rfl
@[simp] theorem State.withT_draws (n : Nat) : (s.withT n).draws = s.draws := rfl
@[simp] theorem State.withT_allows (n : Nat) (x : Word) (dir : Direction) : (s.withT n).allows x dir = s.allows x dir := rfl
@[simp] theorem State.withT_byteAt (n : Nat) (x : Word) : (s.withT n).byteAt x = s.byteAt x := rfl

/-! ### `State.record` -/

@[simp] theorem State.record_regs (e : IoEvent) : (s.record e).regs = s.regs := rfl
@[simp] theorem State.record_flags (e : IoEvent) : (s.record e).flags = s.flags := rfl
@[simp] theorem State.record_pc (e : IoEvent) : (s.record e).pc = s.pc := rfl
@[simp] theorem State.record_sp (e : IoEvent) : (s.record e).sp = s.sp := rfl
@[simp] theorem State.record_inte (e : IoEvent) : (s.record e).inte = s.inte := rfl
@[simp] theorem State.record_intPending (e : IoEvent) : (s.record e).intPending = s.intPending := rfl
@[simp] theorem State.record_intVector (e : IoEvent) : (s.record e).intVector = s.intVector := rfl
@[simp] theorem State.record_mem (e : IoEvent) : (s.record e).mem = s.mem := rfl
@[simp] theorem State.record_readMarks (e : IoEvent) : (s.record e).readMarks = s.readMarks := rfl
@[simp] theorem State.record_writeMarks (e : IoEvent) : (s.record e).writeMarks = s.writeMarks := rfl
@[simp] theorem State.record_variant (e : IoEvent) : (s.record e).variant = s.variant := rfl
@[simp] theorem State.record_marking (e : IoEvent) : (s.record e).marking = s.marking := rfl
@[simp] theorem State.record_figures (e : IoEvent) : (s.record e).figures = s.figures := rfl
@[simp] theorem State.record_figure (e : IoEvent) (o : Byte) (k : Bool) : (s.record e).figure o k = s.figure o k := rfl
@[simp] theorem State.record_tJccNotTaken (e : IoEvent) : (s.record e).tJccNotTaken = s.tJccNotTaken := rfl
@[simp] theorem State.record_device (e : IoEvent) : (s.record e).device = s.device := rfl
@[simp] theorem State.record_tstates (e : IoEvent) : (s.record e).tstates = s.tstates := rfl
@[simp] theorem State.record_events (e : IoEvent) : (s.record e).events = s.events ++ [e] := rfl
@[simp] theorem State.record_draws (e : IoEvent) : (s.record e).draws = s.draws := rfl
@[simp] theorem State.record_allows (e : IoEvent) (x : Word) (dir : Direction) : (s.record e).allows x dir = s.allows x dir := rfl
@[simp] theorem State.record_byteAt (e : IoEvent) (x : Word) : (s.record e).byteAt x = s.byteAt x := rfl

/-! ### `State.drainLatch` -/

@[simp] theorem State.drainLatch_regs : (s.drainLatch).regs = s.regs := rfl
@[simp] theorem State.drainLatch_flags : (s.drainLatch).flags = s.flags := rfl
@[simp] theorem State.drainLatch_pc : (s.drainLatch).pc = s.pc := rfl
@[simp] theorem State.drainLatch_sp : (s.drainLatch).sp = s.sp := rfl
@[simp] theorem State.drainLatch_inte : (s.drainLatch).inte = s.inte := rfl
@[simp] theorem State.drainLatch_intPending : (s.drainLatch).intPending = false := rfl
@[simp] theorem State.drainLatch_intVector : (s.drainLatch).intVector = s.intVector := rfl
@[simp] theorem State.drainLatch_mem : (s.drainLatch).mem = s.mem := rfl
@[simp] theorem State.drainLatch_readMarks : (s.drainLatch).readMarks = s.readMarks := rfl
@[simp] theorem State.drainLatch_writeMarks : (s.drainLatch).writeMarks = s.writeMarks := rfl
@[simp] theorem State.drainLatch_variant : (s.drainLatch).variant = s.variant := rfl
@[simp] theorem State.drainLatch_marking : (s.drainLatch).marking = s.marking := rfl
@[simp] theorem State.drainLatch_figures : (s.drainLatch).figures = s.figures := rfl
@[simp] theorem State.drainLatch_figure (o : Byte) (k : Bool) : (s.drainLatch).figure o k = s.figure o k := rfl
@[simp] theorem State.drainLatch_tJccNotTaken : (s.drainLatch).tJccNotTaken = s.tJccNotTaken := rfl
@[simp] theorem State.drainLatch_device : (s.drainLatch).device = s.device := rfl
@[simp] theorem State.drainLatch_tstates : (s.drainLatch).tstates = s.tstates := rfl
@[simp] theorem State.drainLatch_events : (s.drainLatch).events = s.events := rfl
@[simp] theorem State.drainLatch_draws : (s.drainLatch).draws = s.draws := rfl
@[simp] theorem State.drainLatch_allows (x : Word) (dir : Direction) : (s.drainLatch).allows x dir = s.allows x dir := rfl
@[simp] theorem State.drainLatch_byteAt (x : Word) : (s.drainLatch).byteAt x = s.byteAt x := rfl

/-! ### `State.afterRead` -/

@[simp] theorem State.afterRead_regs (a : Word) : (s.afterRead a).regs = s.regs := rfl
@[simp] theorem State.afterRead_flags (a : Word) : (s.afterRead a).flags = s.flags := rfl
@[simp] theorem State.afterRead_pc (a : Word) : (s.afterRead a).pc = s.pc := rfl
@[simp] theorem State.afterRead_sp (a : Word) : (s.afterRead a).sp = s.sp := rfl
@[simp] theorem State.afterRead_inte (a : Word) : (s.afterRead a).inte = s.inte := rfl
@[simp] theorem State.afterRead_intPending (a : Word) : (s.afterRead a).intPending = s.intPending := rfl
@[simp] theorem State.afterRead_intVector (a : Word) : (s.afterRead a).intVector = s.intVector := rfl
@[simp] theorem State.afterRead_mem (a : Word) : (s.afterRead a).mem = s.mem := rfl
@[simp] theorem State.afterRead_readMarks (a : Word) : (s.afterRead a).readMarks = if s.marking then s.readMarks.insert a.toNat else s.readMarks := rfl
@[simp] theorem State.afterRead_writeMarks (a : Word) : (s.afterRead a).writeMarks = s.writeMarks := rfl
@[simp] theorem State.afterRead_variant (a : Word) : (s.afterRead a).variant = s.variant := rfl
@[simp] theorem State.afterRead_marking (a : Word) : (s.afterRead a).marking = s.marking := rfl
@[simp] theorem State.afterRead_figures (a : Word) : (s.afterRead a).figures = s.figures := rfl
@[simp] theorem State.afterRead_figure (a : Word) (o : Byte) (k : Bool) : (s.afterRead a).figure o k = s.figure o k := rfl
@[simp] theorem State.afterRead_tJccNotTaken (a : Word) : (s.afterRead a).tJccNotTaken = s.tJccNotTaken := rfl
@[simp] theorem State.afterRead_device (a : Word) : (s.afterRead a).device = s.device := rfl
@[simp] theorem State.afterRead_tstates (a : Word) : (s.afterRead a).tstates = s.tstates := rfl
@[simp] theorem State.afterRead_events (a : Word) : (s.afterRead a).events = s.events := rfl
@[simp] theorem State.afterRead_draws (a : Word) : (s.afterRead a).draws = s.draws := rfl
@[simp] theorem State.afterRead_allows (a : Word) (x : Word) (dir : Direction) : (s.afterRead a).allows x dir = s.allows x dir := rfl
@[simp] theorem State.afterRead_byteAt (a : Word) (x : Word) : (s.afterRead a).byteAt x = s.byteAt x := rfl

/-! ### `State.afterWrite` -/

@[simp] theorem State.afterWrite_regs (a : Word) (v : Byte) : (s.afterWrite a v).regs = s.regs := rfl
@[simp] theorem State.afterWrite_flags (a : Word) (v : Byte) : (s.afterWrite a v).flags = s.flags := rfl
@[simp] theorem State.afterWrite_pc (a : Word) (v : Byte) : (s.afterWrite a v).pc = s.pc := rfl
@[simp] theorem State.afterWrite_sp (a : Word) (v : Byte) : (s.afterWrite a v).sp = s.sp := rfl
@[simp] theorem State.afterWrite_inte (a : Word) (v : Byte) : (s.afterWrite a v).inte = s.inte := rfl
@[simp] theorem State.afterWrite_intPending (a : Word) (v : Byte) : (s.afterWrite a v).intPending = s.intPending := rfl
@[simp] theorem State.afterWrite_intVector (a : Word) (v : Byte) : (s.afterWrite a v).intVector = s.intVector := rfl
@[simp] theorem State.afterWrite_mem (a : Word) (v : Byte) : (s.afterWrite a v).mem = s.mem.write a.toNat v := rfl
@[simp] theorem State.afterWrite_readMarks (a : Word) (v : Byte) : (s.afterWrite a v).readMarks = s.readMarks := rfl
@[simp] theorem State.afterWrite_writeMarks (a : Word) (v : Byte) : (s.afterWrite a v).writeMarks = if s.marking then s.writeMarks.insert a.toNat else s.writeMarks := rfl
@[simp] theorem State.afterWrite_variant (a : Word) (v : Byte) : (s.afterWrite a v).variant = s.variant := rfl
@[simp] theorem State.afterWrite_marking (a : Word) (v : Byte) : (s.afterWrite a v).marking = s.marking := rfl
@[simp] theorem State.afterWrite_figures (a : Word) (v : Byte) : (s.afterWrite a v).figures = s.figures := rfl
@[simp] theorem State.afterWrite_figure (a : Word) (v : Byte) (o : Byte) (k : Bool) : (s.afterWrite a v).figure o k = s.figure o k := rfl
@[simp] theorem State.afterWrite_tJccNotTaken (a : Word) (v : Byte) : (s.afterWrite a v).tJccNotTaken = s.tJccNotTaken := rfl
@[simp] theorem State.afterWrite_device (a : Word) (v : Byte) : (s.afterWrite a v).device = s.device := rfl
@[simp] theorem State.afterWrite_tstates (a : Word) (v : Byte) : (s.afterWrite a v).tstates = s.tstates := rfl
@[simp] theorem State.afterWrite_events (a : Word) (v : Byte) : (s.afterWrite a v).events = s.events := rfl
@[simp] theorem State.afterWrite_draws (a : Word) (v : Byte) : (s.afterWrite a v).draws = s.draws := rfl
@[simp] theorem State.afterWrite_allows (a : Word) (v : Byte) (x : Word) (dir : Direction) : (s.afterWrite a v).allows x dir = s.allows x dir := rfl

/-! ### `State.withAF` -/

@[simp] theorem State.withAF_regs (a : Byte) (f : Flags) : (s.withAF a f).regs = { s.regs with a := a } := rfl
@[simp] theorem State.withAF_flags (a : Byte) (f : Flags) : (s.withAF a f).flags = f := rfl
@[simp] theorem State.withAF_pc (a : Byte) (f : Flags) : (s.withAF a f).pc = s.pc := rfl
@[simp] theorem State.withAF_sp (a : Byte) (f : Flags) : (s.withAF a f).sp = s.sp := rfl
@[simp] theorem State.withAF_inte (a : Byte) (f : Flags) : (s.withAF a f).inte = s.inte := rfl
@[simp] theorem State.withAF_intPending (a : Byte) (f : Flags) : (s.withAF a f).intPending = s.intPending := rfl
@[simp] theorem State.withAF_intVector (a : Byte) (f : Flags) : (s.withAF a f).intVector = s.intVector := rfl
@[simp] theorem State.withAF_mem (a : Byte) (f : Flags) : (s.withAF a f).mem = s.mem := rfl
@[simp] theorem State.withAF_readMarks (a : Byte) (f : Flags) : (s.withAF a f).readMarks = s.readMarks := rfl
@[simp] theorem State.withAF_writeMarks (a : Byte) (f : Flags) : (s.withAF a f).writeMarks = s.writeMarks := rfl
@[simp] theorem State.withAF_variant (a : Byte) (f : Flags) : (s.withAF a f).variant = s.variant := rfl
@[simp] theorem State.withAF_marking (a : Byte) (f : Flags) : (s.withAF a f).marking = s.marking := rfl
@[simp] theorem State.withAF_figures (a : Byte) (f : Flags) : (s.withAF a f).figures = s.figures := rfl
@[simp] theorem State.withAF_figure (a : Byte) (f : Flags) (o : Byte) (k : Bool) : (s.withAF a f).figure o k = s.figure o k := rfl
@[simp] theorem State.withAF_tJccNotTaken (a : Byte) (f : Flags) : (s.withAF a f).tJccNotTaken = s.tJccNotTaken := rfl
@[simp] theorem State.withAF_device (a : Byte) (f : Flags) : (s.withAF a f).device = s.device := rfl
@[simp] theorem State.withAF_tstates (a : Byte) (f : Flags) : (s.withAF a f).tstates = s.tstates := rfl
@[simp] theorem State.withAF_events (a : Byte) (f : Flags) : (s.withAF a f).events = s.events := rfl
@[simp] theorem State.withAF_draws (a : Byte) (f : Flags) : (s.withAF a f).draws = s.draws := rfl
@[simp] theorem State.withAF_allows (a : Byte) (f : Flags) (x : Word) (dir : Direction) : (s.withAF a f).allows x dir = s.allows x dir := rfl
@[simp] theorem State.withAF_byteAt (a : Byte) (f : Flags) (x : Word) : (s.withAF a f).byteAt x = s.byteAt x := rfl

/-! ### `State.setPair` -/

@[simp] theorem State.setPair_flags (p : RegPair) (w : Word) : (s.setPair p w).flags = s.flags := by cases p <;> rfl
@[simp] theorem State.setPair_pc (p : RegPair) (w : Word) : (s.setPair p w).pc = s.pc := by cases p <;> rfl
@[simp] theorem State.setPair_inte (p : RegPair) (w : Word) : (s.setPair p w).inte = s.inte := by cases p <;> rfl
@[simp] theorem State.setPair_intPending (p : RegPair) (w : Word) : (s.setPair p w).intPending = s.intPending := by cases p <;> rfl
@[simp] theorem State.setPair_intVector (p : RegPair) (w : Word) : (s.setPair p w).intVector = s.intVector := by cases p <;> rfl
@[simp] theorem State.setPair_mem (p : RegPair) (w : Word) : (s.setPair p w).mem = s.mem := by cases p <;> rfl
@[simp] theorem State.setPair_readMarks (p : RegPair) (w : Word) : (s.setPair p w).readMarks = s.readMarks := by cases p <;> rfl
@[simp] theorem State.setPair_writeMarks (p : RegPair) (w : Word) : (s.setPair p w).writeMarks = s.writeMarks := by cases p <;> rfl
@[simp] theorem State.setPair_variant (p : RegPair) (w : Word) : (s.setPair p w).variant = s.variant := by cases p <;> rfl
@[simp] theorem State.setPair_marking (p : RegPair) (w : Word) : (s.setPair p w).marking = s.marking := by cases p <;> rfl
@[simp] theorem State.setPair_figures (p : RegPair) (w : Word) : (s.setPair p w).figures = s.figures := by cases p <;> rfl
@[simp] theorem State.setPair_figure (p : RegPair) (w : Word) (o : Byte) (k : Bool) : (s.setPair p w).figure o k = s.figure o k := by rw [State.figure, State.setPair_figures]; rfl
@[simp] theorem State.setPair_tJccNotTaken (p : RegPair) (w : Word) : (s.setPair p w).tJccNotTaken = s.tJccNotTaken := by cases p <;> rfl
@[simp] theorem State.setPair_device (p : RegPair) (w : Word) : (s.setPair p w).device = s.device := by cases p <;> rfl
@[simp] theorem State.setPair_tstates (p : RegPair) (w : Word) : (s.setPair p w).tstates = s.tstates := by cases p <;> rfl
@[simp] theorem State.setPair_events (p : RegPair) (w : Word) : (s.setPair p w).events = s.events := by cases p <;> rfl
@[simp] theorem State.setPair_draws (p : RegPair) (w : Word) : (s.setPair p w).draws = s.draws := by cases p <;> rfl
@[simp] theorem State.setPair_allows (p : RegPair) (w : Word) (x : Word) (dir : Direction) :
    (s.setPair p w).allows x dir = s.allows x dir := by cases p <;> rfl
@[simp] theorem State.setPair_byteAt (p : RegPair) (w : Word) (x : Word) : (s.setPair p w).byteAt x = s.byteAt x := by
  cases p <;> rfl

/-! ### The ALU: A, the flags, and nothing else -/

@[simp] theorem aluApply_pc (op : AluOp) (v : Byte) : (aluApply op v s).pc = s.pc := by cases op <;> rfl
@[simp] theorem aluApply_sp (op : AluOp) (v : Byte) : (aluApply op v s).sp = s.sp := by cases op <;> rfl
@[simp] theorem aluApply_inte (op : AluOp) (v : Byte) : (aluApply op v s).inte = s.inte := by cases op <;> rfl
@[simp] theorem aluApply_intPending (op : AluOp) (v : Byte) : (aluApply op v s).intPending = s.intPending := by cases op <;> rfl
@[simp] theorem aluApply_intVector (op : AluOp) (v : Byte) : (aluApply op v s).intVector = s.intVector := by cases op <;> rfl
@[simp] theorem aluApply_mem (op : AluOp) (v : Byte) : (aluApply op v s).mem = s.mem := by cases op <;> rfl
@[simp] theorem aluApply_readMarks (op : AluOp) (v : Byte) : (aluApply op v s).readMarks = s.readMarks := by cases op <;> rfl
@[simp] theorem aluApply_writeMarks (op : AluOp) (v : Byte) : (aluApply op v s).writeMarks = s.writeMarks := by cases op <;> rfl
@[simp] theorem aluApply_variant (op : AluOp) (v : Byte) : (aluApply op v s).variant = s.variant := by cases op <;> rfl
@[simp] theorem aluApply_marking (op : AluOp) (v : Byte) : (aluApply op v s).marking = s.marking := by cases op <;> rfl
@[simp] theorem aluApply_figures (op : AluOp) (v : Byte) : (aluApply op v s).figures = s.figures := by cases op <;> rfl
@[simp] theorem aluApply_figure (op : AluOp) (v : Byte) (o : Byte) (k : Bool) : (aluApply op v s).figure o k = s.figure o k := by rw [State.figure, aluApply_figures]; rfl
@[simp] theorem aluApply_tJccNotTaken (op : AluOp) (v : Byte) : (aluApply op v s).tJccNotTaken = s.tJccNotTaken := by cases op <;> rfl
@[simp] theorem aluApply_device (op : AluOp) (v : Byte) : (aluApply op v s).device = s.device := by cases op <;> rfl
@[simp] theorem aluApply_tstates (op : AluOp) (v : Byte) : (aluApply op v s).tstates = s.tstates := by cases op <;> rfl
@[simp] theorem aluApply_events (op : AluOp) (v : Byte) : (aluApply op v s).events = s.events := by cases op <;> rfl
@[simp] theorem aluApply_draws (op : AluOp) (v : Byte) : (aluApply op v s).draws = s.draws := by cases op <;> rfl
@[simp] theorem aluApply_allows (op : AluOp) (v : Byte) (x : Word) (dir : Direction) :
    (aluApply op v s).allows x dir = s.allows x dir := by cases op <;> rfl
@[simp] theorem aluApply_byteAt (op : AluOp) (v : Byte) (x : Word) : (aluApply op v s).byteAt x = s.byteAt x := by
  cases op <;> rfl

/-- An ALU operation leaves every register but A. -/
theorem aluApply_getReg_of_ne (op : AluOp) (v : Byte) (r : Reg) (h : r ≠ .a) : (aluApply op v s).getReg r = s.getReg r := by
  cases op <;> cases r <;> first | rfl | exact absurd rfl h

/-- A compare leaves A too (42_logical.md R213). -/
theorem aluApply_cmp_regs (v : Byte) : (aluApply .cmp v s).regs = s.regs := rfl

/-! ### Registers -/

@[simp] theorem Regs.get_set_same (x : Regs) (r : Reg) (v : Byte) : (x.set r v).get r = v := by cases r <;> rfl

theorem Regs.get_set_of_ne (x : Regs) (r q : Reg) (v : Byte) (h : q ≠ r) : (x.set r v).get q = x.get q := by
  cases r <;> cases q <;> first | rfl | exact absurd rfl h

@[simp] theorem Regs.set_get (x : Regs) (r : Reg) : x.set r (x.get r) = x := by cases r <;> rfl

/-! ### Bytes and words (20_memory.md R60, 10_state.md R23) -/

theorem wordOf_getLsbD (hi lo : Byte) (i : Nat) : (wordOf hi lo).getLsbD i = if i < 8 then lo.getLsbD i else hi.getLsbD (i - 8) :=
  BitVec.getLsbD_append

theorem lowByte_getLsbD (w : Word) (i : Nat) : (lowByte w).getLsbD i = (decide (i < 8) && w.getLsbD i) := by
  simp [lowByte, BitVec.getLsbD_extractLsb']

theorem highByte_getLsbD (w : Word) (i : Nat) : (highByte w).getLsbD i = (decide (i < 8) && w.getLsbD (8 + i)) := by
  simp [highByte, BitVec.getLsbD_extractLsb']

@[simp] theorem lowByte_wordOf (hi lo : Byte) : lowByte (wordOf hi lo) = lo := by
  apply BitVec.eq_of_getLsbD_eq
  intro i hi
  rw [lowByte_getLsbD, wordOf_getLsbD, if_pos hi, decide_eq_true hi, Bool.true_and]

@[simp] theorem highByte_wordOf (hi lo : Byte) : highByte (wordOf hi lo) = hi := by
  apply BitVec.eq_of_getLsbD_eq
  intro i hi
  rw [highByte_getLsbD, wordOf_getLsbD, if_neg (by omega), decide_eq_true hi, Bool.true_and, Nat.add_sub_cancel_left]

@[simp] theorem wordOf_highByte_lowByte (w : Word) : wordOf (highByte w) (lowByte w) = w := by
  apply BitVec.eq_of_getLsbD_eq
  intro i hi
  by_cases h : i < 8
  · rw [wordOf_getLsbD, if_pos h, lowByte_getLsbD, decide_eq_true h, Bool.true_and]
  · have h8 : i - 8 < 8 := by omega
    have hi' : 8 + (i - 8) = i := by omega
    rw [wordOf_getLsbD, if_neg h, highByte_getLsbD, decide_eq_true h8, hi', Bool.true_and]

/-- `hi ++ lo` is `256 * hi + lo` (30_encoding.md R104). -/
theorem wordOf_toNat (hi lo : Byte) : (wordOf hi lo).toNat = 256 * hi.toNat + lo.toNat := by
  have h : (wordOf hi lo).toNat = hi.toNat <<< 8 ||| lo.toNat := BitVec.toNat_append hi lo
  rw [h, ← Nat.shiftLeft_add_eq_or_of_lt lo.isLt, Nat.shiftLeft_eq]
  omega

/-! ### Pairs: written and read back, high byte first -/

@[simp] theorem Regs.bc_setBc (x : Regs) (w : Word) : (x.setBc w).bc = w := by simp [Regs.bc, Regs.setBc]
@[simp] theorem Regs.de_setDe (x : Regs) (w : Word) : (x.setDe w).de = w := by simp [Regs.de, Regs.setDe]
@[simp] theorem Regs.hl_setHl (x : Regs) (w : Word) : (x.setHl w).hl = w := by simp [Regs.hl, Regs.setHl]

/-- A pair reads back what was written (10_state.md R24). -/
@[simp] theorem State.getPair_setPair (p : RegPair) (w : Word) : (s.setPair p w).getPair p = w := by
  cases p <;> simp [State.setPair, State.getPair]

end Sys2Proof.Machine
end

