-- ==== Sys2Proof/Laws/Memory.lean ====
section
/-! SUPPORT. Memory and marks: reads after writes, and that every operation keeps the canonical form. -/

namespace Sys2Proof.Machine

/-! ### The canonical form -/

theorem Memory.wfFrom_mono {m : Memory} {lo lo' : Nat} (hle : lo' ≤ lo) (h : m.wfFrom lo = true) : m.wfFrom lo' = true := by
  cases m with
  | nil => rfl
  | cons x rest =>
    obtain ⟨k, v⟩ := x
    simp only [Memory.wfFrom, Bool.and_eq_true, decide_eq_true_eq] at h ⊢
    exact ⟨⟨⟨by omega, h.1.1.2⟩, h.1.2⟩, h.2⟩

/-- Below the least listed address memory is the fill. -/
theorem Memory.read_of_lt {m : Memory} {lo a : Nat} (h : m.wfFrom lo = true) (hlt : a < lo) : m.read a = Config.memoryFill := by
  induction m generalizing lo with
  | nil => rfl
  | cons x rest ih =>
    obtain ⟨k, v⟩ := x
    simp only [Memory.wfFrom, Bool.and_eq_true, decide_eq_true_eq] at h
    have hk : k ≠ a := by omega
    simp only [Memory.read, if_neg hk]
    exact ih h.2 (by omega)

/-- A write at or above `lo` keeps the form from `lo` on. -/
theorem Memory.write_wfFrom {m : Memory} {lo a : Nat} (v : Byte) (h : m.wfFrom lo = true) (hlo : lo ≤ a)
    (ha : a < Config.addressSpace) : (m.write a v).wfFrom lo = true := by
  induction m generalizing lo with
  | nil =>
    by_cases hv : v = Config.memoryFill <;> simp [Memory.write, Memory.wfFrom, hv, hlo, ha]
  | cons x rest ih =>
    obtain ⟨k, w⟩ := x
    have h' := h
    simp only [Memory.wfFrom, Bool.and_eq_true, decide_eq_true_eq] at h'
    obtain ⟨⟨⟨hk, hks⟩, hw⟩, hr⟩ := h'
    by_cases hlt : k < a
    · simp only [Memory.write, if_pos hlt, Memory.wfFrom, Bool.and_eq_true, decide_eq_true_eq]
      exact ⟨⟨⟨hk, hks⟩, hw⟩, ih hr (by omega)⟩
    · by_cases heq : k = a
      · subst heq
        by_cases hv : v = Config.memoryFill
        · simpa [Memory.write, hv] using Memory.wfFrom_mono (by omega) hr
        · simp [Memory.write, hv, Memory.wfFrom, hlo, ha, hr]
      · by_cases hv : v = Config.memoryFill
        · simpa [Memory.write, hlt, heq, hv] using h
        · have hk' : a + 1 ≤ k := by omega
          simp [Memory.write, hlt, heq, hv, Memory.wfFrom, hlo, ha, hk', hks, hw, hr]

/-- Every write keeps the canonical form. -/
theorem Memory.write_wf {m : Memory} (a : Word) (v : Byte) (h : m.wf = true) : (m.write a.toNat v).wf = true :=
  Memory.write_wfFrom v h (Nat.zero_le _) a.isLt

/-! ### Reads after writes (20_memory.md R62) -/

theorem Memory.read_write_same_from {m : Memory} {lo a : Nat} (v : Byte) (h : m.wfFrom lo = true) : (m.write a v).read a = v := by
  induction m generalizing lo with
  | nil => by_cases hv : v = Config.memoryFill <;> simp [Memory.write, Memory.read, hv]
  | cons x rest ih =>
    obtain ⟨k, w⟩ := x
    simp only [Memory.wfFrom, Bool.and_eq_true, decide_eq_true_eq] at h
    by_cases hlt : k < a
    · have hne : k ≠ a := by omega
      simp only [Memory.write, if_pos hlt, Memory.read, if_neg hne]
      exact ih h.2
    · by_cases heq : k = a
      · subst heq
        by_cases hv : v = Config.memoryFill
        · simpa [Memory.write, hv] using Memory.read_of_lt h.2 (by omega)
        · simp [Memory.write, hv, Memory.read]
      · by_cases hv : v = Config.memoryFill
        · simpa [Memory.write, hlt, heq, hv, Memory.read] using Memory.read_of_lt h.2 (by omega)
        · simp [Memory.write, hlt, heq, hv, Memory.read]

/-- A read after a write to the same address gives the value written. -/
theorem Memory.read_write_same {m : Memory} (a : Nat) (v : Byte) (h : m.wf = true) : (m.write a v).read a = v :=
  Memory.read_write_same_from v h

/-- A write leaves every other address alone, in any list. -/
theorem Memory.read_write_of_ne (m : Memory) {a b : Nat} (v : Byte) (h : b ≠ a) : (m.write a v).read b = m.read b := by
  have h' : a ≠ b := Ne.symm h
  induction m with
  | nil => by_cases hv : v = Config.memoryFill <;> simp [Memory.write, Memory.read, hv, h']
  | cons x rest ih =>
    obtain ⟨k, w⟩ := x
    by_cases hlt : k < a
    · simp only [Memory.write, if_pos hlt, Memory.read, ih]
    · by_cases heq : k = a
      · subst heq
        by_cases hv : v = Config.memoryFill <;> simp [Memory.write, hv, Memory.read, h']
      · by_cases hv : v = Config.memoryFill <;> simp [Memory.write, hlt, heq, hv, Memory.read, h']

theorem Word.toNat_ne {a b : Word} (h : a ≠ b) : a.toNat ≠ b.toNat := fun e => h (BitVec.eq_of_toNat_eq e)

/-- The byte just written. -/
theorem State.byteAt_afterWrite_same {s : State} (a : Word) (v : Byte) (h : s.mem.wf = true) :
    (s.afterWrite a v).byteAt a = v := Memory.read_write_same _ _ h

/-- Every other byte. -/
theorem State.byteAt_afterWrite_of_ne (s : State) {a b : Word} (v : Byte) (h : b ≠ a) :
    (s.afterWrite a v).byteAt b = s.byteAt b := Memory.read_write_of_ne _ _ (Word.toNat_ne h)

/-- A write keeps the canonical form. -/
theorem State.afterWrite_mem_wf {s : State} (a : Word) (v : Byte) (h : s.mem.wf = true) : (s.afterWrite a v).mem.wf = true :=
  Memory.write_wf a v h

/-- The cleared memory is 0 everywhere (20_memory.md R79). -/
theorem clearMemory_byteAt (s : State) (a : Word) : (clearMemory s).byteAt a = 0x00#8 := rfl

/-! ### Marks -/

theorem Marks.insert_wfFrom {m : Marks} {lo a : Nat} (h : m.wfFrom lo = true) (hlo : lo ≤ a) (ha : a < Config.addressSpace) :
    (m.insert a).wfFrom lo = true := by
  induction m generalizing lo with
  | nil => simp [Marks.insert, Marks.wfFrom, hlo, ha]
  | cons k rest ih =>
    have h' := h
    simp only [Marks.wfFrom, Bool.and_eq_true, decide_eq_true_eq] at h'
    by_cases hlt : k < a
    · simp only [Marks.insert, if_pos hlt, Marks.wfFrom, Bool.and_eq_true, decide_eq_true_eq]
      exact ⟨h'.1, ih h'.2 (by omega)⟩
    · by_cases heq : k = a
      · simpa [Marks.insert, hlt, heq] using heq ▸ h
      · have hk' : a + 1 ≤ k := by omega
        simp [Marks.insert, hlt, heq, Marks.wfFrom, hlo, ha, hk', h'.1.2, h'.2]

/-- Setting a mark keeps the canonical form. -/
theorem Marks.insert_wf {m : Marks} (a : Word) (h : m.wf = true) : (m.insert a.toNat).wf = true :=
  Marks.insert_wfFrom h (Nat.zero_le _) a.isLt

/-- Setting a mark sets that mark and no other. -/
theorem Marks.marked_insert (m : Marks) (a b : Nat) : (m.insert a).marked b = (m.marked b || b == a) := by
  induction m with
  | nil => exact Bool.or_comm _ _
  | cons k rest ih =>
    simp only [Marks.marked, List.contains_cons] at ih ⊢
    by_cases hlt : k < a
    · simp only [Marks.insert, if_pos hlt, List.contains_cons, ih, Bool.or_assoc]
    · by_cases heq : k = a
      · subst heq
        simp only [Marks.insert, if_neg hlt, if_true, List.contains_cons]
        cases (b == k) <;> cases (List.contains rest b) <;> rfl
      · simp only [Marks.insert, if_neg hlt, if_neg heq, List.contains_cons]
        cases (b == a) <;> cases (b == k) <;> cases (List.contains rest b) <;> rfl

/-- Setting a mark twice is setting it once. -/
theorem Marks.insert_idem (m : Marks) (a : Nat) : (m.insert a).insert a = m.insert a := by
  induction m with
  | nil => simp [Marks.insert]
  | cons k rest ih =>
    by_cases hlt : k < a
    · simp [Marks.insert, hlt, ih]
    · by_cases heq : k = a
      · simp [Marks.insert, heq]
      · simp [Marks.insert, hlt, heq]

end Sys2Proof.Machine
end

