-- ==== Sys2Proof/Laws/Ops.lean ====
section
/-! SUPPORT. One equation per shared operation: it either raises the access violation of the first access the permission
table denies, or goes on with the state written out. Proofs cite these instead of unfolding the operations. -/

namespace Sys2Proof.Machine

/-- The answer of an operation whose first denied access is `d` and whose state is `t` if none is denied. -/
def answer (d : Option (Word × Direction)) (t : State) : Result :=
  match d with
  | none => .next t
  | some x => .fault (.accessViolation x.1 x.2)

/-- The same inside a step, with a value. -/
def accessAnswer {α : Type} (d : Option (Word × Direction)) (v : α) (t : State) : Access α :=
  match d with
  | none => .ok v t
  | some x => .fault (.accessViolation x.1 x.2)

@[simp] theorem answer_none (t : State) : answer none t = .next t := rfl
@[simp] theorem answer_some (x : Word × Direction) (t : State) : answer (some x) t = .fault (.accessViolation x.1 x.2) := rfl
@[simp] theorem accessAnswer_none {α : Type} (v : α) (t : State) : accessAnswer none v t = .ok v t := rfl
@[simp] theorem accessAnswer_some {α : Type} (x : Word × Direction) (v : α) (t : State) :
    accessAnswer (some x) v t = .fault (.accessViolation x.1 x.2) := rfl

/-- An answer is a next state exactly when no access is denied. -/
theorem answer_eq_next {d : Option (Word × Direction)} {t u : State} : answer d t = .next u ↔ d = none ∧ t = u := by
  cases d <;> simp [answer]

/-- An answer is a fault exactly when an access is denied, and then it is that access's violation. -/
theorem answer_eq_fault {d : Option (Word × Direction)} {t : State} {f : Fault} :
    answer d t = .fault f ↔ ∃ x, d = some x ∧ f = .accessViolation x.1 x.2 := by
  cases d <;> simp [answer, eq_comm]

/-- No answer is a refusal. -/
theorem answer_ne_refused (d : Option (Word × Direction)) (t : State) (r : Refusal) : answer d t ≠ .refused r := by
  cases d <;> simp [answer]

/-! ### Running on -/

@[simp] theorem Access.andThen_ok {α β : Type} (v : α) (s : State) (k : α → State → Access β) :
    (Access.ok v s).andThen k = k v s := rfl
@[simp] theorem Access.andThen_fault {α β : Type} (f : Fault) (k : α → State → Access β) :
    (Access.fault f : Access α).andThen k = .fault f := rfl
@[simp] theorem Access.run_ok {α : Type} (v : α) (s : State) (k : α → State → Result) : (Access.ok v s).run k = k v s := rfl
@[simp] theorem Access.run_fault {α : Type} (f : Fault) (k : α → State → Result) :
    (Access.fault f : Access α).run k = .fault f := rfl
@[simp] theorem Access.finish_ok {α : Type} (v : α) (s : State) (k : α → State → State) :
    (Access.ok v s).finish k = .next (k v s) := rfl
@[simp] theorem Access.finish_fault {α : Type} (f : Fault) (k : α → State → State) :
    (Access.fault f : Access α).finish k = .fault f := rfl

@[simp] theorem accessAnswer_finish {α : Type} (d : Option (Word × Direction)) (v : α) (t : State) (k : α → State → State) :
    (accessAnswer d v t).finish k = answer d (k v t) := by cases d <;> rfl

/-! ### The first denied access -/

@[simp] theorem State.firstDenied_nil (s : State) : s.firstDenied [] = none := rfl

theorem State.firstDenied_cons (s : State) (x : Word × Direction) (rest : List (Word × Direction)) :
    s.firstDenied (x :: rest) = if s.allows x.1 x.2 then s.firstDenied rest else some x := rfl

/-- Only the permission table matters. -/
theorem State.firstDenied_congr {s t : State} (h : t.variant = s.variant) (xs : List (Word × Direction)) :
    t.firstDenied xs = s.firstDenied xs := by
  induction xs with
  | nil => rfl
  | cons x rest ih =>
    have hx : t.allows x.1 x.2 = s.allows x.1 x.2 := by simp only [State.allows, h]
    simp only [State.firstDenied, hx, ih]

theorem State.firstDenied_append (s : State) (xs ys : List (Word × Direction)) :
    s.firstDenied (xs ++ ys) = (s.firstDenied xs).or (s.firstDenied ys) := by
  induction xs with
  | nil => rfl
  | cons x rest ih =>
    by_cases h : s.allows x.1 x.2 <;> simp [State.firstDenied, h, ih]

/-- None is denied exactly when every access is allowed. -/
theorem State.firstDenied_eq_none {s : State} {xs : List (Word × Direction)} :
    s.firstDenied xs = none ↔ ∀ x ∈ xs, s.allows x.1 x.2 = true := by
  induction xs with
  | nil => simp
  | cons x rest ih =>
    by_cases h : s.allows x.1 x.2 <;> simp [State.firstDenied, h, ih]

/-- The access named is in the list and denied. -/
theorem State.firstDenied_eq_some {s : State} {xs : List (Word × Direction)} {x : Word × Direction}
    (h : s.firstDenied xs = some x) : x ∈ xs ∧ s.allows x.1 x.2 = false := by
  induction xs with
  | nil => simp at h
  | cons y rest ih =>
    by_cases hy : s.allows y.1 y.2
    · rw [State.firstDenied, if_pos hy] at h
      exact ⟨List.mem_cons_of_mem _ (ih h).1, (ih h).2⟩
    · rw [State.firstDenied, if_neg hy] at h
      cases h
      exact ⟨List.mem_cons_self .., by simpa using hy⟩

/-- The plain variant denies nothing (20_memory.md R66). -/
theorem State.firstDenied_plain {s : State} (h : s.variant = .plain) (xs : List (Word × Direction)) : s.firstDenied xs = none :=
  State.firstDenied_eq_none.mpr fun x _ => by simp [State.allows, h]

/-! ### The bus -/

theorem memRead_eq (a : Word) (s : State) :
    memRead a s = accessAnswer (s.firstDenied [(a, .read)]) (s.byteAt a) (s.afterRead a) := by
  by_cases h : s.allows a .read <;> simp [memRead, State.firstDenied, h]

theorem memWrite_eq (a : Word) (v : Byte) (s : State) :
    memWrite a v s = accessAnswer (s.firstDenied [(a, .write)]) () (s.afterWrite a v) := by
  by_cases h : s.allows a .write <;> simp [memWrite, State.firstDenied, h]

/-- Two operations in a row, the second under the same permission table: their accesses in a row. -/
theorem accessAnswer_andThen {α β : Type} {s t u : State} {xs ys : List (Word × Direction)} {v : α} {w : β}
    {k : α → State → Access β} (hv : t.variant = s.variant) (hk : k v t = accessAnswer (t.firstDenied ys) w u) :
    (accessAnswer (s.firstDenied xs) v t).andThen k = accessAnswer (s.firstDenied (xs ++ ys)) w u := by
  rw [State.firstDenied_append]
  cases s.firstDenied xs with
  | some x => rfl
  | none => rw [accessAnswer_none, Access.andThen_ok, hk, State.firstDenied_congr hv, Option.none_or]

/-- The same when the second ends the step. -/
theorem accessAnswer_run {α : Type} {s t u : State} {xs ys : List (Word × Direction)} {v : α}
    {k : α → State → Result} (hv : t.variant = s.variant) (hk : k v t = answer (t.firstDenied ys) u) :
    (accessAnswer (s.firstDenied xs) v t).run k = answer (s.firstDenied (xs ++ ys)) u := by
  rw [State.firstDenied_append]
  cases s.firstDenied xs with
  | some x => rfl
  | none => rw [accessAnswer_none, Access.run_ok, hk, State.firstDenied_congr hv, Option.none_or]

theorem memRead16_eq (a : Word) (s : State) :
    memRead16 a s = accessAnswer (s.firstDenied [(a, .read), (a + 1, .read)]) (s.wordAt a) (s.afterRead16 a) := by
  rw [memRead16, memRead_eq]
  refine accessAnswer_andThen (ys := [(a + 1, .read)]) rfl ?_
  rw [memRead_eq]
  exact accessAnswer_andThen (ys := []) rfl rfl

theorem memWrite16_eq (a w : Word) (s : State) :
    memWrite16 a w s = accessAnswer (s.firstDenied [(a, .write), (a + 1, .write)]) () (s.afterWrite16 a w) := by
  rw [memWrite16, memWrite_eq]
  exact accessAnswer_andThen (ys := [(a + 1, .write)]) rfl (memWrite_eq ..)

theorem push16_eq (w : Word) (s : State) :
    push16 w s = accessAnswer (s.firstDenied [(s.sp - 1, .write), (s.sp - 2, .write)]) () (s.afterPush w) := by
  rw [push16, memWrite_eq]
  refine accessAnswer_andThen (ys := [(s.sp - 2, .write)]) rfl ?_
  rw [memWrite_eq]
  exact accessAnswer_andThen (ys := []) rfl rfl

theorem pop16_eq (s : State) :
    pop16 s = accessAnswer (s.firstDenied [(s.sp, .read), (s.sp + 1, .read)]) (s.wordAt s.sp) s.afterPop := by
  rw [pop16, memRead16_eq]
  exact accessAnswer_andThen (ys := []) rfl rfl

/-! ### Operands and fetch -/

theorem reg8Read_eq (r : RegM) (s : State) :
    reg8Read r s = accessAnswer (s.firstDenied (match r with | .reg _ => [] | .mem => [(s.hl, .read)]))
      (s.operandValue r) (s.afterOperand r) := by
  cases r with
  | reg r => rfl
  | mem => exact memRead_eq s.hl s

theorem fetch8_eq (s : State) :
    fetch8 s = accessAnswer (s.firstDenied [(s.pc, .read)]) (s.byteAt s.pc) ((s.afterRead s.pc).setPc (s.pc + 1)) := by
  rw [fetch8, memRead_eq]
  cases s.firstDenied [(s.pc, .read)] <;> rfl

/-! ### The I/O bus -/

/-- What an IN may change besides recording its event: the device's script and the draw counter. -/
theorem ioIn_frame (port : Byte) (s : State) :
    ∃ dev n, (ioIn port s).2 = { s with device := dev, draws := n, events := s.events ++ [.input port (ioIn port s).1] } := by
  unfold ioIn
  split <;> exact ⟨_, _, rfl⟩

theorem ioIn_silent (port : Byte) {s : State} (h : s.device = .silent) :
    ioIn port s = (0x00#8, s.record (.input port 0x00#8)) := by simp [ioIn, h]

theorem ioIn_script (port v : Byte) (rest : List Byte) {s : State} (h : s.device = .answering (v :: rest)) :
    ioIn port s = (v, { s with device := .answering rest }.record (.input port v)) := by simp [ioIn, h]

theorem ioIn_drawn (port : Byte) {s : State} (h : s.device = .answering []) :
    ioIn port s = (Config.deviceInput s.draws port,
      { s with draws := s.draws + 1 }.record (.input port (Config.deviceInput s.draws port))) := by simp [ioIn, h]

end Sys2Proof.Machine
end

