-- ==== Sys2Proof/Laws/Meanings.lean ====
section
/-! SUPPORT. What each meaning that the instructions share answers: the fault of its first denied access, or the next state
written out over the named updates. -/

namespace Sys2Proof.Machine

theorem movRegister_eq (dst src : Reg) (s : State) :
    movRegister dst src s = answer (s.firstDenied []) ((s.setReg dst (s.getReg src)).withT (s.figure (0b01#2 ++ dst.field ++ src.field) true)) := by
  rfl

theorem movFromMemory_eq (dst : Reg) (s : State) :
    movFromMemory dst s = answer (s.firstDenied [(s.hl, .read)]) (((s.afterRead s.hl).setReg dst (s.byteAt s.hl)).withT (s.figure (0b01#2 ++ dst.field ++ 0b110#3) true)) := by
  rw [movFromMemory, memRead_eq, accessAnswer_finish]

theorem movToMemory_eq (src : Reg) (s : State) :
    movToMemory src s = answer (s.firstDenied [(s.hl, .write)]) ((s.afterWrite s.hl (s.getReg src)).withT (s.figure (0b01110#5 ++ src.field) true)) := by
  rw [movToMemory, memWrite_eq, accessAnswer_finish]

theorem mviRegister_eq (dst : Reg) (d : Byte) (s : State) :
    mviRegister dst d s = answer (s.firstDenied []) ((s.setReg dst d).withT (s.figure (0b00#2 ++ dst.field ++ 0b110#3) true)) := by
  rfl

theorem mviMemory_eq (d : Byte) (s : State) :
    mviMemory d s = answer (s.firstDenied [(s.hl, .write)]) ((s.afterWrite s.hl d).withT (s.figure 0x36#8 true)) := by
  rw [mviMemory, memWrite_eq, accessAnswer_finish]

theorem loadPairImmediate_eq (p : RegPair) (w : Word) (s : State) :
    loadPairImmediate p w s = answer (s.firstDenied []) ((s.setPair p w).withT (s.figure (0b00#2 ++ p.field ++ 0b0001#4) true)) := by
  rfl

theorem loadDirect_eq (a : Word) (s : State) :
    loadDirect a s = answer (s.firstDenied [(a, .read)]) (((s.afterRead a).setReg .a (s.byteAt a)).withT (s.figure 0x3A#8 true)) := by
  rw [loadDirect, memRead_eq, accessAnswer_finish]

theorem storeDirect_eq (a : Word) (s : State) :
    storeDirect a s = answer (s.firstDenied [(a, .write)]) ((s.afterWrite a s.regs.a).withT (s.figure 0x32#8 true)) := by
  rw [storeDirect, memWrite_eq, accessAnswer_finish]; rfl

theorem loadHlDirect_eq (a : Word) (s : State) :
    loadHlDirect a s = answer (s.firstDenied [(a, .read), (a + 1, .read)]) (((s.afterRead16 a).setPair .hl (s.wordAt a)).withT (s.figure 0x2A#8 true)) := by
  rw [loadHlDirect, memRead16_eq, accessAnswer_finish]

theorem storeHlDirect_eq (a : Word) (s : State) :
    storeHlDirect a s = answer (s.firstDenied [(a, .write), (a + 1, .write)]) ((s.afterWrite16 a s.hl).withT (s.figure 0x22#8 true)) := by
  rw [storeHlDirect, memWrite16_eq, accessAnswer_finish]

theorem loadIndexed_eq (p : IndexPair) (s : State) :
    loadIndexed p s = answer (s.firstDenied [(s.getPair (indexRegPair p), .read)]) (((s.afterRead (s.getPair (indexRegPair p))).setReg .a (s.byteAt (s.getPair (indexRegPair p)))).withT (s.figure (0b000#3 ++ p.field ++ 0b1010#4) true)) := by
  rw [loadIndexed, memRead_eq, accessAnswer_finish]

theorem storeIndexed_eq (p : IndexPair) (s : State) :
    storeIndexed p s = answer (s.firstDenied [(s.getPair (indexRegPair p), .write)]) ((s.afterWrite (s.getPair (indexRegPair p)) s.regs.a).withT (s.figure (0b000#3 ++ p.field ++ 0b0010#4) true)) := by
  rw [storeIndexed, memWrite_eq, accessAnswer_finish]; rfl

theorem exchangeHlDe_eq (s : State) :
    exchangeHlDe s = answer (s.firstDenied []) ({ s with regs := { s.regs with d := s.regs.h, e := s.regs.l, h := s.regs.d, l := s.regs.e } }.withT (s.figure 0xEB#8 true)) := by
  rfl

/-- The read an ALU operand makes: none for a register, HL for M (20_memory.md R73). -/
def operandReads (r : RegM) (s : State) : List (Word × Direction) :=
  match r with
  | .reg _ => []
  | .mem => [(s.hl, .read)]

theorem aluOperand_eq (op : AluOp) (src : RegM) (s : State) :
    aluOperand op src s = answer (s.firstDenied (operandReads src s)) ((aluApply op (s.operandValue src) (s.afterOperand src)).withT (s.figure (0b10#2 ++ op.field ++ src.field) true)) := by
  cases src with
  | reg r => rfl
  | mem => exact (congrArg (Access.finish · _) (memRead_eq s.hl s)).trans (accessAnswer_finish ..)

theorem aluImmediate_eq (op : AluOp) (v : Byte) (s : State) :
    aluImmediate op v s = answer (s.firstDenied []) ((aluApply op v s).withT (s.figure (0b11#2 ++ op.field ++ 0b110#3) true)) := by
  rfl

theorem incrementRegister_eq (r : Reg) (s : State) :
    incrementRegister r s = answer (s.firstDenied []) (((s.setReg r (s.getReg r + 1)).setFlags (s.flags.afterInr (s.getReg r + 1))).withT (s.figure (0b00#2 ++ r.field ++ 0b100#3) true)) := by
  rfl

theorem decrementRegister_eq (r : Reg) (s : State) :
    decrementRegister r s = answer (s.firstDenied []) (((s.setReg r (s.getReg r - 1)).setFlags (s.flags.afterDcr (s.getReg r - 1))).withT (s.figure (0b00#2 ++ r.field ++ 0b101#3) true)) := by
  rfl

theorem incrementMemory_eq (s : State) :
    incrementMemory s = answer (s.firstDenied [(s.hl, .read), (s.hl, .write)]) ((((s.afterRead s.hl).setFlags (s.flags.afterInr (s.byteAt s.hl + 1))).afterWrite s.hl (s.byteAt s.hl + 1)).withT (s.figure 0x34#8 true)) := by
  rw [incrementMemory, memRead_eq]
  refine accessAnswer_run (ys := [(s.hl, .write)]) rfl ?_
  exact (congrArg (Access.finish · _) (memWrite_eq ..)).trans (accessAnswer_finish ..)

theorem decrementMemory_eq (s : State) :
    decrementMemory s = answer (s.firstDenied [(s.hl, .read), (s.hl, .write)]) ((((s.afterRead s.hl).setFlags (s.flags.afterDcr (s.byteAt s.hl - 1))).afterWrite s.hl (s.byteAt s.hl - 1)).withT (s.figure 0x35#8 true)) := by
  rw [decrementMemory, memRead_eq]
  refine accessAnswer_run (ys := [(s.hl, .write)]) rfl ?_
  exact (congrArg (Access.finish · _) (memWrite_eq ..)).trans (accessAnswer_finish ..)

theorem incrementPair_eq (p : RegPair) (s : State) :
    incrementPair p s = answer (s.firstDenied []) ((s.setPair p (s.getPair p + 1)).withT (s.figure (0b00#2 ++ p.field ++ 0b0011#4) true)) := by
  rfl

theorem decrementPair_eq (p : RegPair) (s : State) :
    decrementPair p s = answer (s.firstDenied []) ((s.setPair p (s.getPair p - 1)).withT (s.figure (0b00#2 ++ p.field ++ 0b1011#4) true)) := by
  rfl

theorem addPairToHl_eq (p : RegPair) (s : State) :
    addPairToHl p s = answer (s.firstDenied []) (((s.setPair .hl (BitVec.ofNat 16 (s.hl.toNat + (s.getPair p).toNat))).setCy (decide (65536 ≤ s.hl.toNat + (s.getPair p).toNat))).withT (s.figure (0b00#2 ++ p.field ++ 0b1001#4) true)) := by
  rfl

theorem decimalAdjust_eq (s : State) :
    decimalAdjust s = answer (s.firstDenied []) (((aluAdd (daaAdjust s.regs.a s.flags.ac s.flags.cy) false s).setCy (daaHighAdjust s.regs.a s.flags.cy)).withT (s.figure 0x27#8 true)) := by
  rfl

theorem rotateLeft_eq (s : State) :
    rotateLeft s = answer (s.firstDenied []) (((s.setReg .a (s.regs.a.extractLsb' 0 7 ++ BitVec.ofBool (s.regs.a.getLsbD 7))).setCy (s.regs.a.getLsbD 7)).withT (s.figure 0x07#8 true)) := by
  rfl

theorem rotateRight_eq (s : State) :
    rotateRight s = answer (s.firstDenied []) (((s.setReg .a (BitVec.ofBool (s.regs.a.getLsbD 0) ++ s.regs.a.extractLsb' 1 7)).setCy (s.regs.a.getLsbD 0)).withT (s.figure 0x0F#8 true)) := by
  rfl

theorem rotateLeftThroughCarry_eq (s : State) :
    rotateLeftThroughCarry s = answer (s.firstDenied []) (((s.setReg .a (s.regs.a.extractLsb' 0 7 ++ BitVec.ofBool s.flags.cy)).setCy (s.regs.a.getLsbD 7)).withT (s.figure 0x17#8 true)) := by
  rfl

theorem rotateRightThroughCarry_eq (s : State) :
    rotateRightThroughCarry s = answer (s.firstDenied []) (((s.setReg .a (BitVec.ofBool s.flags.cy ++ s.regs.a.extractLsb' 1 7)).setCy (s.regs.a.getLsbD 0)).withT (s.figure 0x1F#8 true)) := by
  rfl

theorem complementAccumulator_eq (s : State) :
    complementAccumulator s = answer (s.firstDenied []) ((s.setReg .a (s.regs.a ^^^ 0xFF#8)).withT (s.figure 0x2F#8 true)) := by
  rfl

theorem setCarry_eq (s : State) :
    setCarry s = answer (s.firstDenied []) ((s.setCy true).withT (s.figure 0x37#8 true)) := by
  rfl

theorem complementCarry_eq (s : State) :
    complementCarry s = answer (s.firstDenied []) ((s.setCy (!s.flags.cy)).withT (s.figure 0x3F#8 true)) := by
  rfl

theorem jumpAlways_eq (a : Word) (s : State) :
    jumpAlways a s = answer (s.firstDenied []) ((s.setPc a).withT (s.figure 0xC3#8 true)) := by
  rfl

theorem jumpIf_eq (cond : Cond) (a : Word) (s : State) :
    jumpIf cond a s = answer (s.firstDenied []) (if s.flags.satisfies cond then (s.setPc a).withT (s.figure (0b11#2 ++ cond.field ++ 0b010#3) true) else s.withT s.tJccNotTaken) := by
  rw [jumpIf]; split <;> rfl

theorem pushAndJump_eq (a : Word) (n : Nat) (s : State) :
    pushAndJump a n s = answer (s.firstDenied [(s.sp - 1, .write), (s.sp - 2, .write)]) (((s.afterPush s.pc).setPc a).withT n) := by
  rw [pushAndJump, push16_eq, accessAnswer_finish]

theorem callTo_eq (a : Word) (s : State) :
    callTo a s = answer (s.firstDenied [(s.sp - 1, .write), (s.sp - 2, .write)]) (((s.afterPush s.pc).setPc a).withT (s.figure 0xCD#8 true)) := by
  exact pushAndJump_eq a _ s

theorem callIf_eq (cond : Cond) (a : Word) (s : State) :
    callIf cond a s = answer (s.firstDenied (if s.flags.satisfies cond then [(s.sp - 1, .write), (s.sp - 2, .write)] else [])) (if s.flags.satisfies cond then ((s.afterPush s.pc).setPc a).withT (s.figure (0b11#2 ++ cond.field ++ 0b100#3) true) else s.withT (s.figure (0b11#2 ++ cond.field ++ 0b100#3) false)) := by
  rw [callIf]; split
  · exact pushAndJump_eq a _ s
  · rfl

theorem popToPc_eq (n : Nat) (s : State) :
    popToPc n s = answer (s.firstDenied [(s.sp, .read), (s.sp + 1, .read)]) ((s.afterPop.setPc (s.wordAt s.sp)).withT n) := by
  rw [popToPc, pop16_eq, accessAnswer_finish]

theorem returnFrom_eq (s : State) :
    returnFrom s = answer (s.firstDenied [(s.sp, .read), (s.sp + 1, .read)]) ((s.afterPop.setPc (s.wordAt s.sp)).withT (s.figure 0xC9#8 true)) := by
  exact popToPc_eq _ s

theorem returnIf_eq (cond : Cond) (s : State) :
    returnIf cond s = answer (s.firstDenied (if s.flags.satisfies cond then [(s.sp, .read), (s.sp + 1, .read)] else [])) (if s.flags.satisfies cond then (s.afterPop.setPc (s.wordAt s.sp)).withT (s.figure (0b11#2 ++ cond.field ++ 0b000#3) true) else s.withT (s.figure (0b11#2 ++ cond.field ++ 0b000#3) false)) := by
  rw [returnIf]; split
  · exact popToPc_eq _ s
  · rfl

theorem restart_eq (n : Fin 8) (s : State) :
    restart n s = answer (s.firstDenied [(s.sp - 1, .write), (s.sp - 2, .write)]) (((s.afterPush s.pc).setPc (restartTarget n)).withT (s.figure (0b11#2 ++ BitVec.ofNat 3 n.val ++ 0b111#3) true)) := by
  exact pushAndJump_eq (restartTarget n) _ s

theorem jumpToHl_eq (s : State) :
    jumpToHl s = answer (s.firstDenied []) ((s.setPc s.hl).withT (s.figure 0xE9#8 true)) := by
  rfl

theorem pushPair_eq (p : StackPair) (s : State) :
    pushPair p s = answer (s.firstDenied [(s.sp - 1, .write), (s.sp - 2, .write)]) ((s.afterPush (s.getPair (stackRegPair p))).withT (s.figure (0b11#2 ++ p.field ++ 0b0101#4) true)) := by
  rw [pushPair, push16_eq, accessAnswer_finish]

theorem pushStatus_eq (s : State) :
    pushStatus s = answer (s.firstDenied [(s.sp - 1, .write), (s.sp - 2, .write)]) ((s.afterPush (wordOf s.regs.a (packPSW s.flags))).withT (s.figure 0xF5#8 true)) := by
  rw [pushStatus, push16_eq, accessAnswer_finish]

theorem popPair_eq (p : StackPair) (s : State) :
    popPair p s = answer (s.firstDenied [(s.sp, .read), (s.sp + 1, .read)]) ((s.afterPop.setPair (stackRegPair p) (s.wordAt s.sp)).withT (s.figure (0b11#2 ++ p.field ++ 0b0001#4) true)) := by
  rw [popPair, pop16_eq, accessAnswer_finish]

theorem popStatus_eq (s : State) :
    popStatus s = answer (s.firstDenied [(s.sp, .read), (s.sp + 1, .read)]) ((s.afterPop.withAF (s.byteAt (s.sp + 1)) (unpackPSW (s.byteAt s.sp))).withT (s.figure 0xF1#8 true)) := by
  rw [popStatus, pop16_eq, accessAnswer_finish]
  simp only [State.wordAt, highByte_wordOf, lowByte_wordOf]

theorem exchangeStackTop_eq (s : State) :
    exchangeStackTop s = answer (s.firstDenied [(s.sp, .read), (s.sp + 1, .read), (s.sp, .write), (s.sp + 1, .write)]) ((((s.afterRead16 s.sp).afterWrite16 s.sp s.hl).setPair .hl (s.wordAt s.sp)).withT (s.figure 0xE3#8 true)) := by
  rw [exchangeStackTop, memRead16_eq]
  refine accessAnswer_run (ys := [(s.sp, .write), (s.sp + 1, .write)]) rfl ?_
  rw [memWrite16_eq, accessAnswer_finish]

theorem stackPointerFromHl_eq (s : State) :
    stackPointerFromHl s = answer (s.firstDenied []) ((s.setSp s.hl).withT (s.figure 0xF9#8 true)) := by
  rfl

theorem inputFrom_eq (port : Byte) (s : State) :
    inputFrom port s = answer (s.firstDenied []) (((ioIn port s).2.setReg .a (ioIn port s).1).withT (s.figure 0xDB#8 true)) := by
  rfl

theorem outputTo_eq (port : Byte) (s : State) :
    outputTo port s = answer (s.firstDenied []) ((s.record (.output port s.regs.a)).withT (s.figure 0xD3#8 true)) := by
  rfl

theorem setInterruptEnable_eq (b : Bool) (s : State) :
    setInterruptEnable b s = answer (s.firstDenied []) (((s.setInte b).record (.inte b)).withT (s.figure (if b then 0xFB#8 else 0xF3#8) true)) := by
  rfl

theorem haltBackUp_eq (s : State) :
    haltBackUp s = answer (s.firstDenied []) ((s.setPc (s.pc - 1)).withT (s.figure 0x76#8 true)) := by
  rfl

theorem noOperation_eq (s : State) :
    noOperation s = answer (s.firstDenied []) (s.withT (s.figure 0x00#8 true)) := by
  rfl

end Sys2Proof.Machine
end

