-- ==== Sys2Proof/Laws/Families.lean ====
section
/-! SUPPORT. The instructions by family: a case analysis over the field views of Decode.lean instead of over the 248
constructors, and what exec, the decoder's fields and the tables of Machine/Effects.lean are on each family. -/

namespace Sys2Proof.Machine

/-- The registers of a pair; `sp` is none. -/
def pairRegs : RegPair → List Reg
  | .bc => [.b, .c] | .de => [.d, .e] | .hl => [.h, .l] | .sp => []

/-- The flag a condition tests (43_branch.md R250). -/
def condFlag : Cond → FlagName
  | .nz => .z | .z => .z | .nc => .cy | .c => .cy | .po => .p | .pe => .p | .p => .s | .m => .s

/-- The flags an ALU operation reads (10_state.md R28). -/
def aluFlagsRead : AluOp → List FlagName
  | .adc => [.cy] | .sbb => [.cy] | .add => [] | .sub => [] | .ana => [] | .xra => [] | .ora => [] | .cmp => []

/-- The registers an ALU operation writes: A, but for a compare. -/
def aluRegsWritten : AluOp → List Reg
  | .cmp => [] | .add => [.a] | .adc => [.a] | .sub => [.a] | .sbb => [.a] | .ana => [.a] | .xra => [.a] | .ora => [.a]

/-- Every instruction belongs to one family. -/
theorem instr_by_family {P : Instr → Prop}
    (h_movOf : ∀ (dst : Reg) (r : Reg), P (.movOf dst r))
    (h_movFromMOf : ∀ (dst : Reg), P (.movFromMOf dst))
    (h_movToMOf : ∀ (r : Reg), P (.movToMOf r))
    (h_mviOf : ∀ (r : Reg) (v : Byte), P (.mviOf r v))
    (h_mviM : ∀ (v : Byte), P (.mviM v))
    (h_lxiOf : ∀ (p : RegPair) (w : Word), P (.lxiOf p w))
    (h_lda : ∀ (a : Word), P (.lda a))
    (h_sta : ∀ (a : Word), P (.sta a))
    (h_lhld : ∀ (a : Word), P (.lhld a))
    (h_shld : ∀ (a : Word), P (.shld a))
    (h_ldaxOf : ∀ (p : IndexPair), P (.ldaxOf p))
    (h_staxOf : ∀ (p : IndexPair), P (.staxOf p))
    (h_xchg : P (.xchg))
    (h_aluOf : ∀ (op : AluOp) (r : RegM), P (.aluOf op r))
    (h_aluImmOf : ∀ (op : AluOp) (v : Byte), P (.aluImmOf op v))
    (h_inrOf : ∀ (r : Reg), P (.inrOf r))
    (h_inrM : P (.inrM))
    (h_dcrOf : ∀ (r : Reg), P (.dcrOf r))
    (h_dcrM : P (.dcrM))
    (h_inxOf : ∀ (p : RegPair), P (.inxOf p))
    (h_dcxOf : ∀ (p : RegPair), P (.dcxOf p))
    (h_dadOf : ∀ (p : RegPair), P (.dadOf p))
    (h_daa : P (.daa))
    (h_rlc : P (.rlc))
    (h_rrc : P (.rrc))
    (h_ral : P (.ral))
    (h_rar : P (.rar))
    (h_cma : P (.cma))
    (h_stc : P (.stc))
    (h_cmc : P (.cmc))
    (h_jmp : ∀ (a : Word), P (.jmp a))
    (h_jmpAlias : ∀ (a : Word), P (.jmpAlias a))
    (h_jccOf : ∀ (cond : Cond) (a : Word), P (.jccOf cond a))
    (h_call : ∀ (a : Word), P (.call a))
    (h_callAlias : ∀ (pp : BitVec 2) (a : Word), P (.callAlias pp a))
    (h_cccOf : ∀ (cond : Cond) (a : Word), P (.cccOf cond a))
    (h_ret : P (.ret))
    (h_retAlias : P (.retAlias))
    (h_rccOf : ∀ (cond : Cond), P (.rccOf cond))
    (h_rstOf : ∀ (n : Fin 8), P (.rstOf n))
    (h_pchl : P (.pchl))
    (h_inPort : ∀ (port : Byte), P (.inPort port))
    (h_outPort : ∀ (port : Byte), P (.outPort port))
    (h_nopAlias : ∀ (nnn : BitVec 3), P (.nopAlias nnn))
    (h_nop : P (.nop))
    (h_pushOf : ∀ (p : StackPair), P (.pushOf p))
    (h_pushPSW : P (.pushPSW))
    (h_popOf : ∀ (p : StackPair), P (.popOf p))
    (h_popPSW : P (.popPSW))
    (h_xthl : P (.xthl))
    (h_sphl : P (.sphl))
    (h_ei : P (.ei))
    (h_di : P (.di))
    (h_hlt : P (.hlt))
    : ∀ i, P i := by
  intro i
  cases i with
  | movBB => exact h_movOf .b .b
  | movBC => exact h_movOf .b .c
  | movBD => exact h_movOf .b .d
  | movBE => exact h_movOf .b .e
  | movBH => exact h_movOf .b .h
  | movBL => exact h_movOf .b .l
  | movBA => exact h_movOf .b .a
  | movCB => exact h_movOf .c .b
  | movCC => exact h_movOf .c .c
  | movCD => exact h_movOf .c .d
  | movCE => exact h_movOf .c .e
  | movCH => exact h_movOf .c .h
  | movCL => exact h_movOf .c .l
  | movCA => exact h_movOf .c .a
  | movDB => exact h_movOf .d .b
  | movDC => exact h_movOf .d .c
  | movDD => exact h_movOf .d .d
  | movDE => exact h_movOf .d .e
  | movDH => exact h_movOf .d .h
  | movDL => exact h_movOf .d .l
  | movDA => exact h_movOf .d .a
  | movEB => exact h_movOf .e .b
  | movEC => exact h_movOf .e .c
  | movED => exact h_movOf .e .d
  | movEE => exact h_movOf .e .e
  | movEH => exact h_movOf .e .h
  | movEL => exact h_movOf .e .l
  | movEA => exact h_movOf .e .a
  | movHB => exact h_movOf .h .b
  | movHC => exact h_movOf .h .c
  | movHD => exact h_movOf .h .d
  | movHE => exact h_movOf .h .e
  | movHH => exact h_movOf .h .h
  | movHL => exact h_movOf .h .l
  | movHA => exact h_movOf .h .a
  | movLB => exact h_movOf .l .b
  | movLC => exact h_movOf .l .c
  | movLD => exact h_movOf .l .d
  | movLE => exact h_movOf .l .e
  | movLH => exact h_movOf .l .h
  | movLL => exact h_movOf .l .l
  | movLA => exact h_movOf .l .a
  | movAB => exact h_movOf .a .b
  | movAC => exact h_movOf .a .c
  | movAD => exact h_movOf .a .d
  | movAE => exact h_movOf .a .e
  | movAH => exact h_movOf .a .h
  | movAL => exact h_movOf .a .l
  | movAA => exact h_movOf .a .a
  | movBM => exact h_movFromMOf .b
  | movCM => exact h_movFromMOf .c
  | movDM => exact h_movFromMOf .d
  | movEM => exact h_movFromMOf .e
  | movHM => exact h_movFromMOf .h
  | movLM => exact h_movFromMOf .l
  | movAM => exact h_movFromMOf .a
  | movMB => exact h_movToMOf .b
  | movMC => exact h_movToMOf .c
  | movMD => exact h_movToMOf .d
  | movME => exact h_movToMOf .e
  | movMH => exact h_movToMOf .h
  | movML => exact h_movToMOf .l
  | movMA => exact h_movToMOf .a
  | mviB d => exact h_mviOf .b d
  | mviC d => exact h_mviOf .c d
  | mviD d => exact h_mviOf .d d
  | mviE d => exact h_mviOf .e d
  | mviH d => exact h_mviOf .h d
  | mviL d => exact h_mviOf .l d
  | mviA d => exact h_mviOf .a d
  | mviM d => exact h_mviM d
  | lxiB w => exact h_lxiOf .bc w
  | lxiD w => exact h_lxiOf .de w
  | lxiH w => exact h_lxiOf .hl w
  | lxiSP w => exact h_lxiOf .sp w
  | lda w => exact h_lda w
  | sta w => exact h_sta w
  | lhld w => exact h_lhld w
  | shld w => exact h_shld w
  | ldaxB => exact h_ldaxOf .bc
  | ldaxD => exact h_ldaxOf .de
  | staxB => exact h_staxOf .bc
  | staxD => exact h_staxOf .de
  | xchg => exact h_xchg
  | addB => exact h_aluOf .add (.reg .b)
  | addC => exact h_aluOf .add (.reg .c)
  | addD => exact h_aluOf .add (.reg .d)
  | addE => exact h_aluOf .add (.reg .e)
  | addH => exact h_aluOf .add (.reg .h)
  | addL => exact h_aluOf .add (.reg .l)
  | addM => exact h_aluOf .add .mem
  | addA => exact h_aluOf .add (.reg .a)
  | adcB => exact h_aluOf .adc (.reg .b)
  | adcC => exact h_aluOf .adc (.reg .c)
  | adcD => exact h_aluOf .adc (.reg .d)
  | adcE => exact h_aluOf .adc (.reg .e)
  | adcH => exact h_aluOf .adc (.reg .h)
  | adcL => exact h_aluOf .adc (.reg .l)
  | adcM => exact h_aluOf .adc .mem
  | adcA => exact h_aluOf .adc (.reg .a)
  | subB => exact h_aluOf .sub (.reg .b)
  | subC => exact h_aluOf .sub (.reg .c)
  | subD => exact h_aluOf .sub (.reg .d)
  | subE => exact h_aluOf .sub (.reg .e)
  | subH => exact h_aluOf .sub (.reg .h)
  | subL => exact h_aluOf .sub (.reg .l)
  | subM => exact h_aluOf .sub .mem
  | subA => exact h_aluOf .sub (.reg .a)
  | sbbB => exact h_aluOf .sbb (.reg .b)
  | sbbC => exact h_aluOf .sbb (.reg .c)
  | sbbD => exact h_aluOf .sbb (.reg .d)
  | sbbE => exact h_aluOf .sbb (.reg .e)
  | sbbH => exact h_aluOf .sbb (.reg .h)
  | sbbL => exact h_aluOf .sbb (.reg .l)
  | sbbM => exact h_aluOf .sbb .mem
  | sbbA => exact h_aluOf .sbb (.reg .a)
  | adi d => exact h_aluImmOf .add d
  | aci d => exact h_aluImmOf .adc d
  | sui d => exact h_aluImmOf .sub d
  | sbi d => exact h_aluImmOf .sbb d
  | inrB => exact h_inrOf .b
  | inrC => exact h_inrOf .c
  | inrD => exact h_inrOf .d
  | inrE => exact h_inrOf .e
  | inrH => exact h_inrOf .h
  | inrL => exact h_inrOf .l
  | inrA => exact h_inrOf .a
  | inrM => exact h_inrM
  | dcrB => exact h_dcrOf .b
  | dcrC => exact h_dcrOf .c
  | dcrD => exact h_dcrOf .d
  | dcrE => exact h_dcrOf .e
  | dcrH => exact h_dcrOf .h
  | dcrL => exact h_dcrOf .l
  | dcrA => exact h_dcrOf .a
  | dcrM => exact h_dcrM
  | inxB => exact h_inxOf .bc
  | inxD => exact h_inxOf .de
  | inxH => exact h_inxOf .hl
  | inxSP => exact h_inxOf .sp
  | dcxB => exact h_dcxOf .bc
  | dcxD => exact h_dcxOf .de
  | dcxH => exact h_dcxOf .hl
  | dcxSP => exact h_dcxOf .sp
  | dadB => exact h_dadOf .bc
  | dadD => exact h_dadOf .de
  | dadH => exact h_dadOf .hl
  | dadSP => exact h_dadOf .sp
  | daa => exact h_daa
  | anaB => exact h_aluOf .ana (.reg .b)
  | anaC => exact h_aluOf .ana (.reg .c)
  | anaD => exact h_aluOf .ana (.reg .d)
  | anaE => exact h_aluOf .ana (.reg .e)
  | anaH => exact h_aluOf .ana (.reg .h)
  | anaL => exact h_aluOf .ana (.reg .l)
  | anaM => exact h_aluOf .ana .mem
  | anaA => exact h_aluOf .ana (.reg .a)
  | xraB => exact h_aluOf .xra (.reg .b)
  | xraC => exact h_aluOf .xra (.reg .c)
  | xraD => exact h_aluOf .xra (.reg .d)
  | xraE => exact h_aluOf .xra (.reg .e)
  | xraH => exact h_aluOf .xra (.reg .h)
  | xraL => exact h_aluOf .xra (.reg .l)
  | xraM => exact h_aluOf .xra .mem
  | xraA => exact h_aluOf .xra (.reg .a)
  | oraB => exact h_aluOf .ora (.reg .b)
  | oraC => exact h_aluOf .ora (.reg .c)
  | oraD => exact h_aluOf .ora (.reg .d)
  | oraE => exact h_aluOf .ora (.reg .e)
  | oraH => exact h_aluOf .ora (.reg .h)
  | oraL => exact h_aluOf .ora (.reg .l)
  | oraM => exact h_aluOf .ora .mem
  | oraA => exact h_aluOf .ora (.reg .a)
  | cmpB => exact h_aluOf .cmp (.reg .b)
  | cmpC => exact h_aluOf .cmp (.reg .c)
  | cmpD => exact h_aluOf .cmp (.reg .d)
  | cmpE => exact h_aluOf .cmp (.reg .e)
  | cmpH => exact h_aluOf .cmp (.reg .h)
  | cmpL => exact h_aluOf .cmp (.reg .l)
  | cmpM => exact h_aluOf .cmp .mem
  | cmpA => exact h_aluOf .cmp (.reg .a)
  | ani d => exact h_aluImmOf .ana d
  | xri d => exact h_aluImmOf .xra d
  | ori d => exact h_aluImmOf .ora d
  | cpi d => exact h_aluImmOf .cmp d
  | rlc => exact h_rlc
  | rrc => exact h_rrc
  | ral => exact h_ral
  | rar => exact h_rar
  | cma => exact h_cma
  | stc => exact h_stc
  | cmc => exact h_cmc
  | jmp w => exact h_jmp w
  | jnz w => exact h_jccOf .nz w
  | jz w => exact h_jccOf .z w
  | jnc w => exact h_jccOf .nc w
  | jc w => exact h_jccOf .c w
  | jpo w => exact h_jccOf .po w
  | jpe w => exact h_jccOf .pe w
  | jp w => exact h_jccOf .p w
  | jm w => exact h_jccOf .m w
  | call w => exact h_call w
  | cnz w => exact h_cccOf .nz w
  | cz w => exact h_cccOf .z w
  | cnc w => exact h_cccOf .nc w
  | cc w => exact h_cccOf .c w
  | cpo w => exact h_cccOf .po w
  | cpe w => exact h_cccOf .pe w
  | cp w => exact h_cccOf .p w
  | cm w => exact h_cccOf .m w
  | ret => exact h_ret
  | rnz => exact h_rccOf .nz
  | rz => exact h_rccOf .z
  | rnc => exact h_rccOf .nc
  | rc => exact h_rccOf .c
  | rpo => exact h_rccOf .po
  | rpe => exact h_rccOf .pe
  | rp => exact h_rccOf .p
  | rm => exact h_rccOf .m
  | rst0 => exact h_rstOf 0
  | rst1 => exact h_rstOf 1
  | rst2 => exact h_rstOf 2
  | rst3 => exact h_rstOf 3
  | rst4 => exact h_rstOf 4
  | rst5 => exact h_rstOf 5
  | rst6 => exact h_rstOf 6
  | rst7 => exact h_rstOf 7
  | pchl => exact h_pchl
  | jmpAlias w => exact h_jmpAlias w
  | retAlias => exact h_retAlias
  | callAlias pp w => exact h_callAlias pp w
  | inPort d => exact h_inPort d
  | outPort d => exact h_outPort d
  | nopAlias nnn => exact h_nopAlias nnn
  | pushB => exact h_pushOf .bc
  | pushD => exact h_pushOf .de
  | pushH => exact h_pushOf .hl
  | pushPSW => exact h_pushPSW
  | popB => exact h_popOf .bc
  | popD => exact h_popOf .de
  | popH => exact h_popOf .hl
  | popPSW => exact h_popPSW
  | xthl => exact h_xthl
  | sphl => exact h_sphl
  | ei => exact h_ei
  | di => exact h_di
  | hlt => exact h_hlt
  | nop => exact h_nop

/-! ### `movOf` -/

@[simp] theorem exec_movOf (dst : Reg) (r : Reg) (s : State) : exec (.movOf dst r) s = movRegister dst r s := by cases dst <;> cases r <;> rfl
@[simp] theorem flagsWritten_movOf (dst : Reg) (r : Reg) : flagsWritten (.movOf dst r) = [] := by cases dst <;> cases r <;> rfl
@[simp] theorem flagsRead_movOf (dst : Reg) (r : Reg) : flagsRead (.movOf dst r) = [] := by cases dst <;> cases r <;> rfl
@[simp] theorem regsWritten_movOf (dst : Reg) (r : Reg) : regsWritten (.movOf dst r) = [dst] := by cases dst <;> cases r <;> rfl
@[simp] theorem writesSp_movOf (dst : Reg) (r : Reg) : writesSp (.movOf dst r) = false := by cases dst <;> cases r <;> rfl
@[simp] theorem callsIo_movOf (dst : Reg) (r : Reg) : callsIo (.movOf dst r) = false := by cases dst <;> cases r <;> rfl
@[simp] theorem loadedFrom_movOf (dst : Reg) (r : Reg) (s : State) : loadedFrom (.movOf dst r) s = [] := by cases dst <;> cases r <;> rfl
@[simp] theorem storedTo_movOf (dst : Reg) (r : Reg) (s : State) : storedTo (.movOf dst r) s = [] := by cases dst <;> cases r <;> rfl

/-! ### `movFromMOf` -/

@[simp] theorem exec_movFromMOf (dst : Reg) (s : State) : exec (.movFromMOf dst) s = movFromMemory dst s := by cases dst <;> rfl
@[simp] theorem flagsWritten_movFromMOf (dst : Reg) : flagsWritten (.movFromMOf dst) = [] := by cases dst <;> rfl
@[simp] theorem flagsRead_movFromMOf (dst : Reg) : flagsRead (.movFromMOf dst) = [] := by cases dst <;> rfl
@[simp] theorem regsWritten_movFromMOf (dst : Reg) : regsWritten (.movFromMOf dst) = [dst] := by cases dst <;> rfl
@[simp] theorem writesSp_movFromMOf (dst : Reg) : writesSp (.movFromMOf dst) = false := by cases dst <;> rfl
@[simp] theorem callsIo_movFromMOf (dst : Reg) : callsIo (.movFromMOf dst) = false := by cases dst <;> rfl
@[simp] theorem loadedFrom_movFromMOf (dst : Reg) (s : State) : loadedFrom (.movFromMOf dst) s = [s.hl] := by cases dst <;> rfl
@[simp] theorem storedTo_movFromMOf (dst : Reg) (s : State) : storedTo (.movFromMOf dst) s = [] := by cases dst <;> rfl

/-! ### `movToMOf` -/

@[simp] theorem exec_movToMOf (r : Reg) (s : State) : exec (.movToMOf r) s = movToMemory r s := by cases r <;> rfl
@[simp] theorem flagsWritten_movToMOf (r : Reg) : flagsWritten (.movToMOf r) = [] := by cases r <;> rfl
@[simp] theorem flagsRead_movToMOf (r : Reg) : flagsRead (.movToMOf r) = [] := by cases r <;> rfl
@[simp] theorem regsWritten_movToMOf (r : Reg) : regsWritten (.movToMOf r) = [] := by cases r <;> rfl
@[simp] theorem writesSp_movToMOf (r : Reg) : writesSp (.movToMOf r) = false := by cases r <;> rfl
@[simp] theorem callsIo_movToMOf (r : Reg) : callsIo (.movToMOf r) = false := by cases r <;> rfl
@[simp] theorem loadedFrom_movToMOf (r : Reg) (s : State) : loadedFrom (.movToMOf r) s = [] := by cases r <;> rfl
@[simp] theorem storedTo_movToMOf (r : Reg) (s : State) : storedTo (.movToMOf r) s = [s.hl] := by cases r <;> rfl

/-! ### `mviOf` -/

@[simp] theorem exec_mviOf (r : Reg) (v : Byte) (s : State) : exec (.mviOf r v) s = mviRegister r v s := by cases r <;> rfl
@[simp] theorem flagsWritten_mviOf (r : Reg) (v : Byte) : flagsWritten (.mviOf r v) = [] := by cases r <;> rfl
@[simp] theorem flagsRead_mviOf (r : Reg) (v : Byte) : flagsRead (.mviOf r v) = [] := by cases r <;> rfl
@[simp] theorem regsWritten_mviOf (r : Reg) (v : Byte) : regsWritten (.mviOf r v) = [r] := by cases r <;> rfl
@[simp] theorem writesSp_mviOf (r : Reg) (v : Byte) : writesSp (.mviOf r v) = false := by cases r <;> rfl
@[simp] theorem callsIo_mviOf (r : Reg) (v : Byte) : callsIo (.mviOf r v) = false := by cases r <;> rfl
@[simp] theorem loadedFrom_mviOf (r : Reg) (v : Byte) (s : State) : loadedFrom (.mviOf r v) s = [] := by cases r <;> rfl
@[simp] theorem storedTo_mviOf (r : Reg) (v : Byte) (s : State) : storedTo (.mviOf r v) s = [] := by cases r <;> rfl

/-! ### `mviM` -/

@[simp] theorem exec_mviM (v : Byte) (s : State) : exec (.mviM v) s = mviMemory v s := rfl
@[simp] theorem flagsWritten_mviM (v : Byte) : flagsWritten (.mviM v) = [] := rfl
@[simp] theorem flagsRead_mviM (v : Byte) : flagsRead (.mviM v) = [] := rfl
@[simp] theorem regsWritten_mviM (v : Byte) : regsWritten (.mviM v) = [] := rfl
@[simp] theorem writesSp_mviM (v : Byte) : writesSp (.mviM v) = false := rfl
@[simp] theorem callsIo_mviM (v : Byte) : callsIo (.mviM v) = false := rfl
@[simp] theorem loadedFrom_mviM (v : Byte) (s : State) : loadedFrom (.mviM v) s = [] := rfl
@[simp] theorem storedTo_mviM (v : Byte) (s : State) : storedTo (.mviM v) s = [s.hl] := rfl

/-! ### `lxiOf` -/

@[simp] theorem exec_lxiOf (p : RegPair) (w : Word) (s : State) : exec (.lxiOf p w) s = loadPairImmediate p w s := by cases p <;> rfl
@[simp] theorem flagsWritten_lxiOf (p : RegPair) (w : Word) : flagsWritten (.lxiOf p w) = [] := by cases p <;> rfl
@[simp] theorem flagsRead_lxiOf (p : RegPair) (w : Word) : flagsRead (.lxiOf p w) = [] := by cases p <;> rfl
@[simp] theorem regsWritten_lxiOf (p : RegPair) (w : Word) : regsWritten (.lxiOf p w) = pairRegs p := by cases p <;> rfl
@[simp] theorem writesSp_lxiOf (p : RegPair) (w : Word) : writesSp (.lxiOf p w) = (p == .sp) := by cases p <;> rfl
@[simp] theorem callsIo_lxiOf (p : RegPair) (w : Word) : callsIo (.lxiOf p w) = false := by cases p <;> rfl
@[simp] theorem loadedFrom_lxiOf (p : RegPair) (w : Word) (s : State) : loadedFrom (.lxiOf p w) s = [] := by cases p <;> rfl
@[simp] theorem storedTo_lxiOf (p : RegPair) (w : Word) (s : State) : storedTo (.lxiOf p w) s = [] := by cases p <;> rfl

/-! ### `lda` -/

@[simp] theorem exec_lda (a : Word) (s : State) : exec (.lda a) s = loadDirect a s := rfl
@[simp] theorem flagsWritten_lda (a : Word) : flagsWritten (.lda a) = [] := rfl
@[simp] theorem flagsRead_lda (a : Word) : flagsRead (.lda a) = [] := rfl
@[simp] theorem regsWritten_lda (a : Word) : regsWritten (.lda a) = [.a] := rfl
@[simp] theorem writesSp_lda (a : Word) : writesSp (.lda a) = false := rfl
@[simp] theorem callsIo_lda (a : Word) : callsIo (.lda a) = false := rfl
@[simp] theorem loadedFrom_lda (a : Word) (s : State) : loadedFrom (.lda a) s = [a] := rfl
@[simp] theorem storedTo_lda (a : Word) (s : State) : storedTo (.lda a) s = [] := rfl

/-! ### `sta` -/

@[simp] theorem exec_sta (a : Word) (s : State) : exec (.sta a) s = storeDirect a s := rfl
@[simp] theorem flagsWritten_sta (a : Word) : flagsWritten (.sta a) = [] := rfl
@[simp] theorem flagsRead_sta (a : Word) : flagsRead (.sta a) = [] := rfl
@[simp] theorem regsWritten_sta (a : Word) : regsWritten (.sta a) = [] := rfl
@[simp] theorem writesSp_sta (a : Word) : writesSp (.sta a) = false := rfl
@[simp] theorem callsIo_sta (a : Word) : callsIo (.sta a) = false := rfl
@[simp] theorem loadedFrom_sta (a : Word) (s : State) : loadedFrom (.sta a) s = [] := rfl
@[simp] theorem storedTo_sta (a : Word) (s : State) : storedTo (.sta a) s = [a] := rfl

/-! ### `lhld` -/

@[simp] theorem exec_lhld (a : Word) (s : State) : exec (.lhld a) s = loadHlDirect a s := rfl
@[simp] theorem flagsWritten_lhld (a : Word) : flagsWritten (.lhld a) = [] := rfl
@[simp] theorem flagsRead_lhld (a : Word) : flagsRead (.lhld a) = [] := rfl
@[simp] theorem regsWritten_lhld (a : Word) : regsWritten (.lhld a) = [.h, .l] := rfl
@[simp] theorem writesSp_lhld (a : Word) : writesSp (.lhld a) = false := rfl
@[simp] theorem callsIo_lhld (a : Word) : callsIo (.lhld a) = false := rfl
@[simp] theorem loadedFrom_lhld (a : Word) (s : State) : loadedFrom (.lhld a) s = [a, a + 1] := rfl
@[simp] theorem storedTo_lhld (a : Word) (s : State) : storedTo (.lhld a) s = [] := rfl

/-! ### `shld` -/

@[simp] theorem exec_shld (a : Word) (s : State) : exec (.shld a) s = storeHlDirect a s := rfl
@[simp] theorem flagsWritten_shld (a : Word) : flagsWritten (.shld a) = [] := rfl
@[simp] theorem flagsRead_shld (a : Word) : flagsRead (.shld a) = [] := rfl
@[simp] theorem regsWritten_shld (a : Word) : regsWritten (.shld a) = [] := rfl
@[simp] theorem writesSp_shld (a : Word) : writesSp (.shld a) = false := rfl
@[simp] theorem callsIo_shld (a : Word) : callsIo (.shld a) = false := rfl
@[simp] theorem loadedFrom_shld (a : Word) (s : State) : loadedFrom (.shld a) s = [] := rfl
@[simp] theorem storedTo_shld (a : Word) (s : State) : storedTo (.shld a) s = [a, a + 1] := rfl

/-! ### `ldaxOf` -/

@[simp] theorem exec_ldaxOf (p : IndexPair) (s : State) : exec (.ldaxOf p) s = loadIndexed p s := by cases p <;> rfl
@[simp] theorem flagsWritten_ldaxOf (p : IndexPair) : flagsWritten (.ldaxOf p) = [] := by cases p <;> rfl
@[simp] theorem flagsRead_ldaxOf (p : IndexPair) : flagsRead (.ldaxOf p) = [] := by cases p <;> rfl
@[simp] theorem regsWritten_ldaxOf (p : IndexPair) : regsWritten (.ldaxOf p) = [.a] := by cases p <;> rfl
@[simp] theorem writesSp_ldaxOf (p : IndexPair) : writesSp (.ldaxOf p) = false := by cases p <;> rfl
@[simp] theorem callsIo_ldaxOf (p : IndexPair) : callsIo (.ldaxOf p) = false := by cases p <;> rfl
@[simp] theorem loadedFrom_ldaxOf (p : IndexPair) (s : State) : loadedFrom (.ldaxOf p) s = [s.getPair (indexRegPair p)] := by cases p <;> rfl
@[simp] theorem storedTo_ldaxOf (p : IndexPair) (s : State) : storedTo (.ldaxOf p) s = [] := by cases p <;> rfl

/-! ### `staxOf` -/

@[simp] theorem exec_staxOf (p : IndexPair) (s : State) : exec (.staxOf p) s = storeIndexed p s := by cases p <;> rfl
@[simp] theorem flagsWritten_staxOf (p : IndexPair) : flagsWritten (.staxOf p) = [] := by cases p <;> rfl
@[simp] theorem flagsRead_staxOf (p : IndexPair) : flagsRead (.staxOf p) = [] := by cases p <;> rfl
@[simp] theorem regsWritten_staxOf (p : IndexPair) : regsWritten (.staxOf p) = [] := by cases p <;> rfl
@[simp] theorem writesSp_staxOf (p : IndexPair) : writesSp (.staxOf p) = false := by cases p <;> rfl
@[simp] theorem callsIo_staxOf (p : IndexPair) : callsIo (.staxOf p) = false := by cases p <;> rfl
@[simp] theorem loadedFrom_staxOf (p : IndexPair) (s : State) : loadedFrom (.staxOf p) s = [] := by cases p <;> rfl
@[simp] theorem storedTo_staxOf (p : IndexPair) (s : State) : storedTo (.staxOf p) s = [s.getPair (indexRegPair p)] := by cases p <;> rfl

/-! ### `xchg` -/

@[simp] theorem exec_xchg (s : State) : exec .xchg s = exchangeHlDe s := rfl
@[simp] theorem flagsWritten_xchg : flagsWritten .xchg = [] := rfl
@[simp] theorem flagsRead_xchg : flagsRead .xchg = [] := rfl
@[simp] theorem regsWritten_xchg : regsWritten .xchg = [.d, .e, .h, .l] := rfl
@[simp] theorem writesSp_xchg : writesSp .xchg = false := rfl
@[simp] theorem callsIo_xchg : callsIo .xchg = false := rfl
@[simp] theorem loadedFrom_xchg (s : State) : loadedFrom .xchg s = [] := rfl
@[simp] theorem storedTo_xchg (s : State) : storedTo .xchg s = [] := rfl

/-! ### `aluOf` -/

@[simp] theorem exec_aluOf (op : AluOp) (r : RegM) (s : State) : exec (.aluOf op r) s = aluOperand op r s := by cases op <;> (rcases r with r | _ <;> try cases r) <;> rfl
@[simp] theorem flagsWritten_aluOf (op : AluOp) (r : RegM) : flagsWritten (.aluOf op r) = [.s, .z, .ac, .p, .cy] := by cases op <;> (rcases r with r | _ <;> try cases r) <;> rfl
@[simp] theorem flagsRead_aluOf (op : AluOp) (r : RegM) : flagsRead (.aluOf op r) = aluFlagsRead op := by cases op <;> (rcases r with r | _ <;> try cases r) <;> rfl
@[simp] theorem regsWritten_aluOf (op : AluOp) (r : RegM) : regsWritten (.aluOf op r) = aluRegsWritten op := by cases op <;> (rcases r with r | _ <;> try cases r) <;> rfl
@[simp] theorem writesSp_aluOf (op : AluOp) (r : RegM) : writesSp (.aluOf op r) = false := by cases op <;> (rcases r with r | _ <;> try cases r) <;> rfl
@[simp] theorem callsIo_aluOf (op : AluOp) (r : RegM) : callsIo (.aluOf op r) = false := by cases op <;> (rcases r with r | _ <;> try cases r) <;> rfl
@[simp] theorem loadedFrom_aluOf (op : AluOp) (r : RegM) (s : State) : loadedFrom (.aluOf op r) s = (operandReads r s).map (·.1) := by cases op <;> (rcases r with r | _ <;> try cases r) <;> rfl
@[simp] theorem storedTo_aluOf (op : AluOp) (r : RegM) (s : State) : storedTo (.aluOf op r) s = [] := by cases op <;> (rcases r with r | _ <;> try cases r) <;> rfl

/-! ### `aluImmOf` -/

@[simp] theorem exec_aluImmOf (op : AluOp) (v : Byte) (s : State) : exec (.aluImmOf op v) s = aluImmediate op v s := by cases op <;> rfl
@[simp] theorem flagsWritten_aluImmOf (op : AluOp) (v : Byte) : flagsWritten (.aluImmOf op v) = [.s, .z, .ac, .p, .cy] := by cases op <;> rfl
@[simp] theorem flagsRead_aluImmOf (op : AluOp) (v : Byte) : flagsRead (.aluImmOf op v) = aluFlagsRead op := by cases op <;> rfl
@[simp] theorem regsWritten_aluImmOf (op : AluOp) (v : Byte) : regsWritten (.aluImmOf op v) = aluRegsWritten op := by cases op <;> rfl
@[simp] theorem writesSp_aluImmOf (op : AluOp) (v : Byte) : writesSp (.aluImmOf op v) = false := by cases op <;> rfl
@[simp] theorem callsIo_aluImmOf (op : AluOp) (v : Byte) : callsIo (.aluImmOf op v) = false := by cases op <;> rfl
@[simp] theorem loadedFrom_aluImmOf (op : AluOp) (v : Byte) (s : State) : loadedFrom (.aluImmOf op v) s = [] := by cases op <;> rfl
@[simp] theorem storedTo_aluImmOf (op : AluOp) (v : Byte) (s : State) : storedTo (.aluImmOf op v) s = [] := by cases op <;> rfl

/-! ### `inrOf` -/

@[simp] theorem exec_inrOf (r : Reg) (s : State) : exec (.inrOf r) s = incrementRegister r s := by cases r <;> rfl
@[simp] theorem flagsWritten_inrOf (r : Reg) : flagsWritten (.inrOf r) = [.s, .z, .ac, .p] := by cases r <;> rfl
@[simp] theorem flagsRead_inrOf (r : Reg) : flagsRead (.inrOf r) = [] := by cases r <;> rfl
@[simp] theorem regsWritten_inrOf (r : Reg) : regsWritten (.inrOf r) = [r] := by cases r <;> rfl
@[simp] theorem writesSp_inrOf (r : Reg) : writesSp (.inrOf r) = false := by cases r <;> rfl
@[simp] theorem callsIo_inrOf (r : Reg) : callsIo (.inrOf r) = false := by cases r <;> rfl
@[simp] theorem loadedFrom_inrOf (r : Reg) (s : State) : loadedFrom (.inrOf r) s = [] := by cases r <;> rfl
@[simp] theorem storedTo_inrOf (r : Reg) (s : State) : storedTo (.inrOf r) s = [] := by cases r <;> rfl

/-! ### `inrM` -/

@[simp] theorem exec_inrM (s : State) : exec .inrM s = incrementMemory s := rfl
@[simp] theorem flagsWritten_inrM : flagsWritten .inrM = [.s, .z, .ac, .p] := rfl
@[simp] theorem flagsRead_inrM : flagsRead .inrM = [] := rfl
@[simp] theorem regsWritten_inrM : regsWritten .inrM = [] := rfl
@[simp] theorem writesSp_inrM : writesSp .inrM = false := rfl
@[simp] theorem callsIo_inrM : callsIo .inrM = false := rfl
@[simp] theorem loadedFrom_inrM (s : State) : loadedFrom .inrM s = [s.hl] := rfl
@[simp] theorem storedTo_inrM (s : State) : storedTo .inrM s = [s.hl] := rfl

/-! ### `dcrOf` -/

@[simp] theorem exec_dcrOf (r : Reg) (s : State) : exec (.dcrOf r) s = decrementRegister r s := by cases r <;> rfl
@[simp] theorem flagsWritten_dcrOf (r : Reg) : flagsWritten (.dcrOf r) = [.s, .z, .ac, .p] := by cases r <;> rfl
@[simp] theorem flagsRead_dcrOf (r : Reg) : flagsRead (.dcrOf r) = [] := by cases r <;> rfl
@[simp] theorem regsWritten_dcrOf (r : Reg) : regsWritten (.dcrOf r) = [r] := by cases r <;> rfl
@[simp] theorem writesSp_dcrOf (r : Reg) : writesSp (.dcrOf r) = false := by cases r <;> rfl
@[simp] theorem callsIo_dcrOf (r : Reg) : callsIo (.dcrOf r) = false := by cases r <;> rfl
@[simp] theorem loadedFrom_dcrOf (r : Reg) (s : State) : loadedFrom (.dcrOf r) s = [] := by cases r <;> rfl
@[simp] theorem storedTo_dcrOf (r : Reg) (s : State) : storedTo (.dcrOf r) s = [] := by cases r <;> rfl

/-! ### `dcrM` -/

@[simp] theorem exec_dcrM (s : State) : exec .dcrM s = decrementMemory s := rfl
@[simp] theorem flagsWritten_dcrM : flagsWritten .dcrM = [.s, .z, .ac, .p] := rfl
@[simp] theorem flagsRead_dcrM : flagsRead .dcrM = [] := rfl
@[simp] theorem regsWritten_dcrM : regsWritten .dcrM = [] := rfl
@[simp] theorem writesSp_dcrM : writesSp .dcrM = false := rfl
@[simp] theorem callsIo_dcrM : callsIo .dcrM = false := rfl
@[simp] theorem loadedFrom_dcrM (s : State) : loadedFrom .dcrM s = [s.hl] := rfl
@[simp] theorem storedTo_dcrM (s : State) : storedTo .dcrM s = [s.hl] := rfl

/-! ### `inxOf` -/

@[simp] theorem exec_inxOf (p : RegPair) (s : State) : exec (.inxOf p) s = incrementPair p s := by cases p <;> rfl
@[simp] theorem flagsWritten_inxOf (p : RegPair) : flagsWritten (.inxOf p) = [] := by cases p <;> rfl
@[simp] theorem flagsRead_inxOf (p : RegPair) : flagsRead (.inxOf p) = [] := by cases p <;> rfl
@[simp] theorem regsWritten_inxOf (p : RegPair) : regsWritten (.inxOf p) = pairRegs p := by cases p <;> rfl
@[simp] theorem writesSp_inxOf (p : RegPair) : writesSp (.inxOf p) = (p == .sp) := by cases p <;> rfl
@[simp] theorem callsIo_inxOf (p : RegPair) : callsIo (.inxOf p) = false := by cases p <;> rfl
@[simp] theorem loadedFrom_inxOf (p : RegPair) (s : State) : loadedFrom (.inxOf p) s = [] := by cases p <;> rfl
@[simp] theorem storedTo_inxOf (p : RegPair) (s : State) : storedTo (.inxOf p) s = [] := by cases p <;> rfl

/-! ### `dcxOf` -/

@[simp] theorem exec_dcxOf (p : RegPair) (s : State) : exec (.dcxOf p) s = decrementPair p s := by cases p <;> rfl
@[simp] theorem flagsWritten_dcxOf (p : RegPair) : flagsWritten (.dcxOf p) = [] := by cases p <;> rfl
@[simp] theorem flagsRead_dcxOf (p : RegPair) : flagsRead (.dcxOf p) = [] := by cases p <;> rfl
@[simp] theorem regsWritten_dcxOf (p : RegPair) : regsWritten (.dcxOf p) = pairRegs p := by cases p <;> rfl
@[simp] theorem writesSp_dcxOf (p : RegPair) : writesSp (.dcxOf p) = (p == .sp) := by cases p <;> rfl
@[simp] theorem callsIo_dcxOf (p : RegPair) : callsIo (.dcxOf p) = false := by cases p <;> rfl
@[simp] theorem loadedFrom_dcxOf (p : RegPair) (s : State) : loadedFrom (.dcxOf p) s = [] := by cases p <;> rfl
@[simp] theorem storedTo_dcxOf (p : RegPair) (s : State) : storedTo (.dcxOf p) s = [] := by cases p <;> rfl

/-! ### `dadOf` -/

@[simp] theorem exec_dadOf (p : RegPair) (s : State) : exec (.dadOf p) s = addPairToHl p s := by cases p <;> rfl
@[simp] theorem flagsWritten_dadOf (p : RegPair) : flagsWritten (.dadOf p) = [.cy] := by cases p <;> rfl
@[simp] theorem flagsRead_dadOf (p : RegPair) : flagsRead (.dadOf p) = [] := by cases p <;> rfl
@[simp] theorem regsWritten_dadOf (p : RegPair) : regsWritten (.dadOf p) = [.h, .l] := by cases p <;> rfl
@[simp] theorem writesSp_dadOf (p : RegPair) : writesSp (.dadOf p) = false := by cases p <;> rfl
@[simp] theorem callsIo_dadOf (p : RegPair) : callsIo (.dadOf p) = false := by cases p <;> rfl
@[simp] theorem loadedFrom_dadOf (p : RegPair) (s : State) : loadedFrom (.dadOf p) s = [] := by cases p <;> rfl
@[simp] theorem storedTo_dadOf (p : RegPair) (s : State) : storedTo (.dadOf p) s = [] := by cases p <;> rfl

/-! ### `daa` -/

@[simp] theorem exec_daa (s : State) : exec .daa s = decimalAdjust s := rfl
@[simp] theorem flagsWritten_daa : flagsWritten .daa = [.s, .z, .ac, .p, .cy] := rfl
@[simp] theorem flagsRead_daa : flagsRead .daa = [.ac, .cy] := rfl
@[simp] theorem regsWritten_daa : regsWritten .daa = [.a] := rfl
@[simp] theorem writesSp_daa : writesSp .daa = false := rfl
@[simp] theorem callsIo_daa : callsIo .daa = false := rfl
@[simp] theorem loadedFrom_daa (s : State) : loadedFrom .daa s = [] := rfl
@[simp] theorem storedTo_daa (s : State) : storedTo .daa s = [] := rfl

/-! ### `rlc` -/

@[simp] theorem exec_rlc (s : State) : exec .rlc s = rotateLeft s := rfl
@[simp] theorem flagsWritten_rlc : flagsWritten .rlc = [.cy] := rfl
@[simp] theorem flagsRead_rlc : flagsRead .rlc = [] := rfl
@[simp] theorem regsWritten_rlc : regsWritten .rlc = [.a] := rfl
@[simp] theorem writesSp_rlc : writesSp .rlc = false := rfl
@[simp] theorem callsIo_rlc : callsIo .rlc = false := rfl
@[simp] theorem loadedFrom_rlc (s : State) : loadedFrom .rlc s = [] := rfl
@[simp] theorem storedTo_rlc (s : State) : storedTo .rlc s = [] := rfl

/-! ### `rrc` -/

@[simp] theorem exec_rrc (s : State) : exec .rrc s = rotateRight s := rfl
@[simp] theorem flagsWritten_rrc : flagsWritten .rrc = [.cy] := rfl
@[simp] theorem flagsRead_rrc : flagsRead .rrc = [] := rfl
@[simp] theorem regsWritten_rrc : regsWritten .rrc = [.a] := rfl
@[simp] theorem writesSp_rrc : writesSp .rrc = false := rfl
@[simp] theorem callsIo_rrc : callsIo .rrc = false := rfl
@[simp] theorem loadedFrom_rrc (s : State) : loadedFrom .rrc s = [] := rfl
@[simp] theorem storedTo_rrc (s : State) : storedTo .rrc s = [] := rfl

/-! ### `ral` -/

@[simp] theorem exec_ral (s : State) : exec .ral s = rotateLeftThroughCarry s := rfl
@[simp] theorem flagsWritten_ral : flagsWritten .ral = [.cy] := rfl
@[simp] theorem flagsRead_ral : flagsRead .ral = [.cy] := rfl
@[simp] theorem regsWritten_ral : regsWritten .ral = [.a] := rfl
@[simp] theorem writesSp_ral : writesSp .ral = false := rfl
@[simp] theorem callsIo_ral : callsIo .ral = false := rfl
@[simp] theorem loadedFrom_ral (s : State) : loadedFrom .ral s = [] := rfl
@[simp] theorem storedTo_ral (s : State) : storedTo .ral s = [] := rfl

/-! ### `rar` -/

@[simp] theorem exec_rar (s : State) : exec .rar s = rotateRightThroughCarry s := rfl
@[simp] theorem flagsWritten_rar : flagsWritten .rar = [.cy] := rfl
@[simp] theorem flagsRead_rar : flagsRead .rar = [.cy] := rfl
@[simp] theorem regsWritten_rar : regsWritten .rar = [.a] := rfl
@[simp] theorem writesSp_rar : writesSp .rar = false := rfl
@[simp] theorem callsIo_rar : callsIo .rar = false := rfl
@[simp] theorem loadedFrom_rar (s : State) : loadedFrom .rar s = [] := rfl
@[simp] theorem storedTo_rar (s : State) : storedTo .rar s = [] := rfl

/-! ### `cma` -/

@[simp] theorem exec_cma (s : State) : exec .cma s = complementAccumulator s := rfl
@[simp] theorem flagsWritten_cma : flagsWritten .cma = [] := rfl
@[simp] theorem flagsRead_cma : flagsRead .cma = [] := rfl
@[simp] theorem regsWritten_cma : regsWritten .cma = [.a] := rfl
@[simp] theorem writesSp_cma : writesSp .cma = false := rfl
@[simp] theorem callsIo_cma : callsIo .cma = false := rfl
@[simp] theorem loadedFrom_cma (s : State) : loadedFrom .cma s = [] := rfl
@[simp] theorem storedTo_cma (s : State) : storedTo .cma s = [] := rfl

/-! ### `stc` -/

@[simp] theorem exec_stc (s : State) : exec .stc s = setCarry s := rfl
@[simp] theorem flagsWritten_stc : flagsWritten .stc = [.cy] := rfl
@[simp] theorem flagsRead_stc : flagsRead .stc = [] := rfl
@[simp] theorem regsWritten_stc : regsWritten .stc = [] := rfl
@[simp] theorem writesSp_stc : writesSp .stc = false := rfl
@[simp] theorem callsIo_stc : callsIo .stc = false := rfl
@[simp] theorem loadedFrom_stc (s : State) : loadedFrom .stc s = [] := rfl
@[simp] theorem storedTo_stc (s : State) : storedTo .stc s = [] := rfl

/-! ### `cmc` -/

@[simp] theorem exec_cmc (s : State) : exec .cmc s = complementCarry s := rfl
@[simp] theorem flagsWritten_cmc : flagsWritten .cmc = [.cy] := rfl
@[simp] theorem flagsRead_cmc : flagsRead .cmc = [.cy] := rfl
@[simp] theorem regsWritten_cmc : regsWritten .cmc = [] := rfl
@[simp] theorem writesSp_cmc : writesSp .cmc = false := rfl
@[simp] theorem callsIo_cmc : callsIo .cmc = false := rfl
@[simp] theorem loadedFrom_cmc (s : State) : loadedFrom .cmc s = [] := rfl
@[simp] theorem storedTo_cmc (s : State) : storedTo .cmc s = [] := rfl

/-! ### `jmp` -/

@[simp] theorem exec_jmp (a : Word) (s : State) : exec (.jmp a) s = jumpAlways a s := rfl
@[simp] theorem flagsWritten_jmp (a : Word) : flagsWritten (.jmp a) = [] := rfl
@[simp] theorem flagsRead_jmp (a : Word) : flagsRead (.jmp a) = [] := rfl
@[simp] theorem regsWritten_jmp (a : Word) : regsWritten (.jmp a) = [] := rfl
@[simp] theorem writesSp_jmp (a : Word) : writesSp (.jmp a) = false := rfl
@[simp] theorem callsIo_jmp (a : Word) : callsIo (.jmp a) = false := rfl
@[simp] theorem loadedFrom_jmp (a : Word) (s : State) : loadedFrom (.jmp a) s = [] := rfl
@[simp] theorem storedTo_jmp (a : Word) (s : State) : storedTo (.jmp a) s = [] := rfl

/-! ### `jmpAlias` -/

@[simp] theorem exec_jmpAlias (a : Word) (s : State) : exec (.jmpAlias a) s = jumpAlways a s := rfl
@[simp] theorem flagsWritten_jmpAlias (a : Word) : flagsWritten (.jmpAlias a) = [] := rfl
@[simp] theorem flagsRead_jmpAlias (a : Word) : flagsRead (.jmpAlias a) = [] := rfl
@[simp] theorem regsWritten_jmpAlias (a : Word) : regsWritten (.jmpAlias a) = [] := rfl
@[simp] theorem writesSp_jmpAlias (a : Word) : writesSp (.jmpAlias a) = false := rfl
@[simp] theorem callsIo_jmpAlias (a : Word) : callsIo (.jmpAlias a) = false := rfl
@[simp] theorem loadedFrom_jmpAlias (a : Word) (s : State) : loadedFrom (.jmpAlias a) s = [] := rfl
@[simp] theorem storedTo_jmpAlias (a : Word) (s : State) : storedTo (.jmpAlias a) s = [] := rfl

/-! ### `jccOf` -/

@[simp] theorem exec_jccOf (cond : Cond) (a : Word) (s : State) : exec (.jccOf cond a) s = jumpIf cond a s := by cases cond <;> rfl
@[simp] theorem flagsWritten_jccOf (cond : Cond) (a : Word) : flagsWritten (.jccOf cond a) = [] := by cases cond <;> rfl
@[simp] theorem flagsRead_jccOf (cond : Cond) (a : Word) : flagsRead (.jccOf cond a) = [condFlag cond] := by cases cond <;> rfl
@[simp] theorem regsWritten_jccOf (cond : Cond) (a : Word) : regsWritten (.jccOf cond a) = [] := by cases cond <;> rfl
@[simp] theorem writesSp_jccOf (cond : Cond) (a : Word) : writesSp (.jccOf cond a) = false := by cases cond <;> rfl
@[simp] theorem callsIo_jccOf (cond : Cond) (a : Word) : callsIo (.jccOf cond a) = false := by cases cond <;> rfl
@[simp] theorem loadedFrom_jccOf (cond : Cond) (a : Word) (s : State) : loadedFrom (.jccOf cond a) s = [] := by cases cond <;> rfl
@[simp] theorem storedTo_jccOf (cond : Cond) (a : Word) (s : State) : storedTo (.jccOf cond a) s = [] := by cases cond <;> rfl

/-! ### `call` -/

@[simp] theorem exec_call (a : Word) (s : State) : exec (.call a) s = callTo a s := rfl
@[simp] theorem flagsWritten_call (a : Word) : flagsWritten (.call a) = [] := rfl
@[simp] theorem flagsRead_call (a : Word) : flagsRead (.call a) = [] := rfl
@[simp] theorem regsWritten_call (a : Word) : regsWritten (.call a) = [] := rfl
@[simp] theorem writesSp_call (a : Word) : writesSp (.call a) = true := rfl
@[simp] theorem callsIo_call (a : Word) : callsIo (.call a) = false := rfl
@[simp] theorem loadedFrom_call (a : Word) (s : State) : loadedFrom (.call a) s = [] := rfl
@[simp] theorem storedTo_call (a : Word) (s : State) : storedTo (.call a) s = [s.sp - 1, s.sp - 2] := rfl

/-! ### `callAlias` -/

@[simp] theorem exec_callAlias (pp : BitVec 2) (a : Word) (s : State) : exec (.callAlias pp a) s = callTo a s := rfl
@[simp] theorem flagsWritten_callAlias (pp : BitVec 2) (a : Word) : flagsWritten (.callAlias pp a) = [] := rfl
@[simp] theorem flagsRead_callAlias (pp : BitVec 2) (a : Word) : flagsRead (.callAlias pp a) = [] := rfl
@[simp] theorem regsWritten_callAlias (pp : BitVec 2) (a : Word) : regsWritten (.callAlias pp a) = [] := rfl
@[simp] theorem writesSp_callAlias (pp : BitVec 2) (a : Word) : writesSp (.callAlias pp a) = true := rfl
@[simp] theorem callsIo_callAlias (pp : BitVec 2) (a : Word) : callsIo (.callAlias pp a) = false := rfl
@[simp] theorem loadedFrom_callAlias (pp : BitVec 2) (a : Word) (s : State) : loadedFrom (.callAlias pp a) s = [] := rfl
@[simp] theorem storedTo_callAlias (pp : BitVec 2) (a : Word) (s : State) : storedTo (.callAlias pp a) s = [s.sp - 1, s.sp - 2] := rfl

/-! ### `cccOf` -/

@[simp] theorem exec_cccOf (cond : Cond) (a : Word) (s : State) : exec (.cccOf cond a) s = callIf cond a s := by cases cond <;> rfl
@[simp] theorem flagsWritten_cccOf (cond : Cond) (a : Word) : flagsWritten (.cccOf cond a) = [] := by cases cond <;> rfl
@[simp] theorem flagsRead_cccOf (cond : Cond) (a : Word) : flagsRead (.cccOf cond a) = [condFlag cond] := by cases cond <;> rfl
@[simp] theorem regsWritten_cccOf (cond : Cond) (a : Word) : regsWritten (.cccOf cond a) = [] := by cases cond <;> rfl
@[simp] theorem writesSp_cccOf (cond : Cond) (a : Word) : writesSp (.cccOf cond a) = true := by cases cond <;> rfl
@[simp] theorem callsIo_cccOf (cond : Cond) (a : Word) : callsIo (.cccOf cond a) = false := by cases cond <;> rfl
@[simp] theorem loadedFrom_cccOf (cond : Cond) (a : Word) (s : State) : loadedFrom (.cccOf cond a) s = [] := by cases cond <;> rfl
@[simp] theorem storedTo_cccOf (cond : Cond) (a : Word) (s : State) : storedTo (.cccOf cond a) s = if s.flags.satisfies cond then [s.sp - 1, s.sp - 2] else [] := by cases cond <;> rfl

/-! ### `ret` -/

@[simp] theorem exec_ret (s : State) : exec .ret s = returnFrom s := rfl
@[simp] theorem flagsWritten_ret : flagsWritten .ret = [] := rfl
@[simp] theorem flagsRead_ret : flagsRead .ret = [] := rfl
@[simp] theorem regsWritten_ret : regsWritten .ret = [] := rfl
@[simp] theorem writesSp_ret : writesSp .ret = true := rfl
@[simp] theorem callsIo_ret : callsIo .ret = false := rfl
@[simp] theorem loadedFrom_ret (s : State) : loadedFrom .ret s = [s.sp, s.sp + 1] := rfl
@[simp] theorem storedTo_ret (s : State) : storedTo .ret s = [] := rfl

/-! ### `retAlias` -/

@[simp] theorem exec_retAlias (s : State) : exec .retAlias s = returnFrom s := rfl
@[simp] theorem flagsWritten_retAlias : flagsWritten .retAlias = [] := rfl
@[simp] theorem flagsRead_retAlias : flagsRead .retAlias = [] := rfl
@[simp] theorem regsWritten_retAlias : regsWritten .retAlias = [] := rfl
@[simp] theorem writesSp_retAlias : writesSp .retAlias = true := rfl
@[simp] theorem callsIo_retAlias : callsIo .retAlias = false := rfl
@[simp] theorem loadedFrom_retAlias (s : State) : loadedFrom .retAlias s = [s.sp, s.sp + 1] := rfl
@[simp] theorem storedTo_retAlias (s : State) : storedTo .retAlias s = [] := rfl

/-! ### `rccOf` -/

@[simp] theorem exec_rccOf (cond : Cond) (s : State) : exec (.rccOf cond) s = returnIf cond s := by cases cond <;> rfl
@[simp] theorem flagsWritten_rccOf (cond : Cond) : flagsWritten (.rccOf cond) = [] := by cases cond <;> rfl
@[simp] theorem flagsRead_rccOf (cond : Cond) : flagsRead (.rccOf cond) = [condFlag cond] := by cases cond <;> rfl
@[simp] theorem regsWritten_rccOf (cond : Cond) : regsWritten (.rccOf cond) = [] := by cases cond <;> rfl
@[simp] theorem writesSp_rccOf (cond : Cond) : writesSp (.rccOf cond) = true := by cases cond <;> rfl
@[simp] theorem callsIo_rccOf (cond : Cond) : callsIo (.rccOf cond) = false := by cases cond <;> rfl
@[simp] theorem loadedFrom_rccOf (cond : Cond) (s : State) : loadedFrom (.rccOf cond) s = if s.flags.satisfies cond then [s.sp, s.sp + 1] else [] := by cases cond <;> rfl
@[simp] theorem storedTo_rccOf (cond : Cond) (s : State) : storedTo (.rccOf cond) s = [] := by cases cond <;> rfl

/-! ### `rstOf` -/

@[simp] theorem exec_rstOf (n : Fin 8) (s : State) : exec (.rstOf n) s = restart n s := by fin_cases n <;> rfl
@[simp] theorem flagsWritten_rstOf (n : Fin 8) : flagsWritten (.rstOf n) = [] := by fin_cases n <;> rfl
@[simp] theorem flagsRead_rstOf (n : Fin 8) : flagsRead (.rstOf n) = [] := by fin_cases n <;> rfl
@[simp] theorem regsWritten_rstOf (n : Fin 8) : regsWritten (.rstOf n) = [] := by fin_cases n <;> rfl
@[simp] theorem writesSp_rstOf (n : Fin 8) : writesSp (.rstOf n) = true := by fin_cases n <;> rfl
@[simp] theorem callsIo_rstOf (n : Fin 8) : callsIo (.rstOf n) = false := by fin_cases n <;> rfl
@[simp] theorem loadedFrom_rstOf (n : Fin 8) (s : State) : loadedFrom (.rstOf n) s = [] := by fin_cases n <;> rfl
@[simp] theorem storedTo_rstOf (n : Fin 8) (s : State) : storedTo (.rstOf n) s = [s.sp - 1, s.sp - 2] := by fin_cases n <;> rfl

/-! ### `pchl` -/

@[simp] theorem exec_pchl (s : State) : exec .pchl s = jumpToHl s := rfl
@[simp] theorem flagsWritten_pchl : flagsWritten .pchl = [] := rfl
@[simp] theorem flagsRead_pchl : flagsRead .pchl = [] := rfl
@[simp] theorem regsWritten_pchl : regsWritten .pchl = [] := rfl
@[simp] theorem writesSp_pchl : writesSp .pchl = false := rfl
@[simp] theorem callsIo_pchl : callsIo .pchl = false := rfl
@[simp] theorem loadedFrom_pchl (s : State) : loadedFrom .pchl s = [] := rfl
@[simp] theorem storedTo_pchl (s : State) : storedTo .pchl s = [] := rfl

/-! ### `inPort` -/

@[simp] theorem exec_inPort (port : Byte) (s : State) : exec (.inPort port) s = inputFrom port s := rfl
@[simp] theorem flagsWritten_inPort (port : Byte) : flagsWritten (.inPort port) = [] := rfl
@[simp] theorem flagsRead_inPort (port : Byte) : flagsRead (.inPort port) = [] := rfl
@[simp] theorem regsWritten_inPort (port : Byte) : regsWritten (.inPort port) = [.a] := rfl
@[simp] theorem writesSp_inPort (port : Byte) : writesSp (.inPort port) = false := rfl
@[simp] theorem callsIo_inPort (port : Byte) : callsIo (.inPort port) = true := rfl
@[simp] theorem loadedFrom_inPort (port : Byte) (s : State) : loadedFrom (.inPort port) s = [] := rfl
@[simp] theorem storedTo_inPort (port : Byte) (s : State) : storedTo (.inPort port) s = [] := rfl

/-! ### `outPort` -/

@[simp] theorem exec_outPort (port : Byte) (s : State) : exec (.outPort port) s = outputTo port s := rfl
@[simp] theorem flagsWritten_outPort (port : Byte) : flagsWritten (.outPort port) = [] := rfl
@[simp] theorem flagsRead_outPort (port : Byte) : flagsRead (.outPort port) = [] := rfl
@[simp] theorem regsWritten_outPort (port : Byte) : regsWritten (.outPort port) = [] := rfl
@[simp] theorem writesSp_outPort (port : Byte) : writesSp (.outPort port) = false := rfl
@[simp] theorem callsIo_outPort (port : Byte) : callsIo (.outPort port) = true := rfl
@[simp] theorem loadedFrom_outPort (port : Byte) (s : State) : loadedFrom (.outPort port) s = [] := rfl
@[simp] theorem storedTo_outPort (port : Byte) (s : State) : storedTo (.outPort port) s = [] := rfl

/-! ### `nopAlias` -/

@[simp] theorem exec_nopAlias (nnn : BitVec 3) (s : State) : exec (.nopAlias nnn) s = noOperation s := rfl
@[simp] theorem flagsWritten_nopAlias (nnn : BitVec 3) : flagsWritten (.nopAlias nnn) = [] := rfl
@[simp] theorem flagsRead_nopAlias (nnn : BitVec 3) : flagsRead (.nopAlias nnn) = [] := rfl
@[simp] theorem regsWritten_nopAlias (nnn : BitVec 3) : regsWritten (.nopAlias nnn) = [] := rfl
@[simp] theorem writesSp_nopAlias (nnn : BitVec 3) : writesSp (.nopAlias nnn) = false := rfl
@[simp] theorem callsIo_nopAlias (nnn : BitVec 3) : callsIo (.nopAlias nnn) = false := rfl
@[simp] theorem loadedFrom_nopAlias (nnn : BitVec 3) (s : State) : loadedFrom (.nopAlias nnn) s = [] := rfl
@[simp] theorem storedTo_nopAlias (nnn : BitVec 3) (s : State) : storedTo (.nopAlias nnn) s = [] := rfl

/-! ### `nop` -/

@[simp] theorem exec_nop (s : State) : exec .nop s = noOperation s := rfl
@[simp] theorem flagsWritten_nop : flagsWritten .nop = [] := rfl
@[simp] theorem flagsRead_nop : flagsRead .nop = [] := rfl
@[simp] theorem regsWritten_nop : regsWritten .nop = [] := rfl
@[simp] theorem writesSp_nop : writesSp .nop = false := rfl
@[simp] theorem callsIo_nop : callsIo .nop = false := rfl
@[simp] theorem loadedFrom_nop (s : State) : loadedFrom .nop s = [] := rfl
@[simp] theorem storedTo_nop (s : State) : storedTo .nop s = [] := rfl

/-! ### `pushOf` -/

@[simp] theorem exec_pushOf (p : StackPair) (s : State) : exec (.pushOf p) s = pushPair p s := by cases p <;> rfl
@[simp] theorem flagsWritten_pushOf (p : StackPair) : flagsWritten (.pushOf p) = [] := by cases p <;> rfl
@[simp] theorem flagsRead_pushOf (p : StackPair) : flagsRead (.pushOf p) = [] := by cases p <;> rfl
@[simp] theorem regsWritten_pushOf (p : StackPair) : regsWritten (.pushOf p) = [] := by cases p <;> rfl
@[simp] theorem writesSp_pushOf (p : StackPair) : writesSp (.pushOf p) = true := by cases p <;> rfl
@[simp] theorem callsIo_pushOf (p : StackPair) : callsIo (.pushOf p) = false := by cases p <;> rfl
@[simp] theorem loadedFrom_pushOf (p : StackPair) (s : State) : loadedFrom (.pushOf p) s = [] := by cases p <;> rfl
@[simp] theorem storedTo_pushOf (p : StackPair) (s : State) : storedTo (.pushOf p) s = [s.sp - 1, s.sp - 2] := by cases p <;> rfl

/-! ### `pushPSW` -/

@[simp] theorem exec_pushPSW (s : State) : exec .pushPSW s = pushStatus s := rfl
@[simp] theorem flagsWritten_pushPSW : flagsWritten .pushPSW = [] := rfl
@[simp] theorem flagsRead_pushPSW : flagsRead .pushPSW = [.s, .z, .ac, .p, .cy] := rfl
@[simp] theorem regsWritten_pushPSW : regsWritten .pushPSW = [] := rfl
@[simp] theorem writesSp_pushPSW : writesSp .pushPSW = true := rfl
@[simp] theorem callsIo_pushPSW : callsIo .pushPSW = false := rfl
@[simp] theorem loadedFrom_pushPSW (s : State) : loadedFrom .pushPSW s = [] := rfl
@[simp] theorem storedTo_pushPSW (s : State) : storedTo .pushPSW s = [s.sp - 1, s.sp - 2] := rfl

/-! ### `popOf` -/

@[simp] theorem exec_popOf (p : StackPair) (s : State) : exec (.popOf p) s = popPair p s := by cases p <;> rfl
@[simp] theorem flagsWritten_popOf (p : StackPair) : flagsWritten (.popOf p) = [] := by cases p <;> rfl
@[simp] theorem flagsRead_popOf (p : StackPair) : flagsRead (.popOf p) = [] := by cases p <;> rfl
@[simp] theorem regsWritten_popOf (p : StackPair) : regsWritten (.popOf p) = pairRegs (stackRegPair p) := by cases p <;> rfl
@[simp] theorem writesSp_popOf (p : StackPair) : writesSp (.popOf p) = true := by cases p <;> rfl
@[simp] theorem callsIo_popOf (p : StackPair) : callsIo (.popOf p) = false := by cases p <;> rfl
@[simp] theorem loadedFrom_popOf (p : StackPair) (s : State) : loadedFrom (.popOf p) s = [s.sp, s.sp + 1] := by cases p <;> rfl
@[simp] theorem storedTo_popOf (p : StackPair) (s : State) : storedTo (.popOf p) s = [] := by cases p <;> rfl

/-! ### `popPSW` -/

@[simp] theorem exec_popPSW (s : State) : exec .popPSW s = popStatus s := rfl
@[simp] theorem flagsWritten_popPSW : flagsWritten .popPSW = [.s, .z, .ac, .p, .cy] := rfl
@[simp] theorem flagsRead_popPSW : flagsRead .popPSW = [] := rfl
@[simp] theorem regsWritten_popPSW : regsWritten .popPSW = [.a] := rfl
@[simp] theorem writesSp_popPSW : writesSp .popPSW = true := rfl
@[simp] theorem callsIo_popPSW : callsIo .popPSW = false := rfl
@[simp] theorem loadedFrom_popPSW (s : State) : loadedFrom .popPSW s = [s.sp, s.sp + 1] := rfl
@[simp] theorem storedTo_popPSW (s : State) : storedTo .popPSW s = [] := rfl

/-! ### `xthl` -/

@[simp] theorem exec_xthl (s : State) : exec .xthl s = exchangeStackTop s := rfl
@[simp] theorem flagsWritten_xthl : flagsWritten .xthl = [] := rfl
@[simp] theorem flagsRead_xthl : flagsRead .xthl = [] := rfl
@[simp] theorem regsWritten_xthl : regsWritten .xthl = [.h, .l] := rfl
@[simp] theorem writesSp_xthl : writesSp .xthl = false := rfl
@[simp] theorem callsIo_xthl : callsIo .xthl = false := rfl
@[simp] theorem loadedFrom_xthl (s : State) : loadedFrom .xthl s = [s.sp, s.sp + 1] := rfl
@[simp] theorem storedTo_xthl (s : State) : storedTo .xthl s = [s.sp, s.sp + 1] := rfl

/-! ### `sphl` -/

@[simp] theorem exec_sphl (s : State) : exec .sphl s = stackPointerFromHl s := rfl
@[simp] theorem flagsWritten_sphl : flagsWritten .sphl = [] := rfl
@[simp] theorem flagsRead_sphl : flagsRead .sphl = [] := rfl
@[simp] theorem regsWritten_sphl : regsWritten .sphl = [] := rfl
@[simp] theorem writesSp_sphl : writesSp .sphl = true := rfl
@[simp] theorem callsIo_sphl : callsIo .sphl = false := rfl
@[simp] theorem loadedFrom_sphl (s : State) : loadedFrom .sphl s = [] := rfl
@[simp] theorem storedTo_sphl (s : State) : storedTo .sphl s = [] := rfl

/-! ### `ei` -/

@[simp] theorem exec_ei (s : State) : exec .ei s = setInterruptEnable true s := rfl
@[simp] theorem flagsWritten_ei : flagsWritten .ei = [] := rfl
@[simp] theorem flagsRead_ei : flagsRead .ei = [] := rfl
@[simp] theorem regsWritten_ei : regsWritten .ei = [] := rfl
@[simp] theorem writesSp_ei : writesSp .ei = false := rfl
@[simp] theorem callsIo_ei : callsIo .ei = true := rfl
@[simp] theorem loadedFrom_ei (s : State) : loadedFrom .ei s = [] := rfl
@[simp] theorem storedTo_ei (s : State) : storedTo .ei s = [] := rfl

/-! ### `di` -/

@[simp] theorem exec_di (s : State) : exec .di s = setInterruptEnable false s := rfl
@[simp] theorem flagsWritten_di : flagsWritten .di = [] := rfl
@[simp] theorem flagsRead_di : flagsRead .di = [] := rfl
@[simp] theorem regsWritten_di : regsWritten .di = [] := rfl
@[simp] theorem writesSp_di : writesSp .di = false := rfl
@[simp] theorem callsIo_di : callsIo .di = true := rfl
@[simp] theorem loadedFrom_di (s : State) : loadedFrom .di s = [] := rfl
@[simp] theorem storedTo_di (s : State) : storedTo .di s = [] := rfl

/-! ### `hlt` -/

@[simp] theorem exec_hlt (s : State) : exec .hlt s = haltBackUp s := rfl
@[simp] theorem flagsWritten_hlt : flagsWritten .hlt = [] := rfl
@[simp] theorem flagsRead_hlt : flagsRead .hlt = [] := rfl
@[simp] theorem regsWritten_hlt : regsWritten .hlt = [] := rfl
@[simp] theorem writesSp_hlt : writesSp .hlt = false := rfl
@[simp] theorem callsIo_hlt : callsIo .hlt = false := rfl
@[simp] theorem loadedFrom_hlt (s : State) : loadedFrom .hlt s = [] := rfl
@[simp] theorem storedTo_hlt (s : State) : storedTo .hlt s = [] := rfl

end Sys2Proof.Machine
end

