-- ==== Sys2Proof/Laws/HostOps.lean ====
section
/-! SUPPORT. What each host move answers, one equation per move, and what placing bytes in memory does. -/

namespace Sys2Proof.Machine

/-! ### Placing bytes -/

/-- Placing bytes changes memory only, and keeps it canonical. -/
theorem State.place_frame (bytes : List Byte) (s : State) (a : Word) :
    ∃ m, s.place a bytes = { s with mem := m } ∧ (s.mem.wf = true → m.wf = true) := by
  induction bytes generalizing s a with
  | nil => exact ⟨s.mem, rfl, id⟩
  | cons v rest ih =>
    obtain ⟨m, h1, h2⟩ := ih { s with mem := s.mem.write a.toNat v } (a + 1)
    exact ⟨m, by rw [State.place, h1], fun h => h2 (Memory.write_wf a v h)⟩

/-- Placing does not look at any field but memory. -/
theorem State.place_mem_congr (bytes : List Byte) {s t : State} (a : Word) (h : t.mem = s.mem) :
    (t.place a bytes).mem = (s.place a bytes).mem := by
  induction bytes generalizing s t a with
  | nil => exact h
  | cons v rest ih => exact ih (a + 1) (by rw [h])

/-- The byte at each address after placing bytes that do not pass the top of memory. -/
theorem State.place_read (bytes : List Byte) (s : State) (n : Nat) (hw : s.mem.wf = true)
    (hn : n + bytes.length ≤ Config.addressSpace) (b : Nat) :
    (s.place (BitVec.ofNat 16 n) bytes).mem.read b =
      if h : n ≤ b ∧ b < n + bytes.length then bytes[b - n] else s.mem.read b := by
  induction bytes generalizing s n with
  | nil => rw [dif_neg (by simp)]; rfl
  | cons v rest ih =>
    simp only [List.length_cons] at hn
    have hlt : n < 65536 := by unfold Config.addressSpace at hn; omega
    have e : (BitVec.ofNat 16 n).toNat = n := by rw [BitVec.toNat_ofNat]; exact Nat.mod_eq_of_lt hlt
    have e1 : BitVec.ofNat 16 n + 1 = BitVec.ofNat 16 (n + 1) := (BitVec.ofNat_add n 1).symm
    rw [State.place, e1, ih _ (n + 1) (Memory.write_wf _ v hw) (by omega), e]
    by_cases hb : b = n
    · subst hb
      rw [dif_neg (by omega), dif_pos (by simp)]
      simpa using Memory.read_write_same b v hw
    · by_cases hr : n + 1 ≤ b ∧ b < n + 1 + rest.length
      · have hr' : n ≤ b ∧ b < n + (v :: rest).length := ⟨by omega, by simp only [List.length_cons]; omega⟩
        rw [dif_pos hr, dif_pos hr']
        obtain ⟨k, rfl⟩ : ∃ k, b = n + 1 + k := ⟨b - (n + 1), by omega⟩
        simp [show n + 1 + k - n = k + 1 by omega]
      · rw [dif_neg hr, dif_neg (by simp only [List.length_cons]; omega)]
        exact Memory.read_write_of_ne s.mem v hb

/-! ### Host moves -/

theorem memRead_finish (a : Word) (s : State) :
    (memRead a s).finish (fun _ t => t) =
      if s.allows a .read = true then .next (s.afterRead a) else .fault (.accessViolation a .read) := by
  rw [memRead]; split <;> rfl

theorem memWrite_finish (a : Word) (v : Byte) (s : State) :
    (memWrite a v s).finish (fun _ t => t) =
      if s.allows a .write = true then .next (s.afterWrite a v) else .fault (.accessViolation a .write) := by
  rw [memWrite]; split <;> rfl

theorem hostStep_read (a : Nat) (s : State) :
    hostStep (.read a) s = if s.allows (BitVec.ofNat 16 a) .read = true then .next (s.afterRead (BitVec.ofNat 16 a))
      else .fault (.accessViolation (BitVec.ofNat 16 a) .read) := memRead_finish _ s

theorem hostStep_write (a v : Nat) (s : State) :
    hostStep (.write a v) s = if s.allows (BitVec.ofNat 16 a) .write = true then
      .next (s.afterWrite (BitVec.ofNat 16 a) (BitVec.ofNat 8 v))
      else .fault (.accessViolation (BitVec.ofNat 16 a) .write) := memWrite_finish _ _ s

/-- Getting a register changes nothing; index 6 reads memory at HL. -/
theorem hostStep_getReg (i : Fin 8) (s : State) :
    hostStep (.getReg i) s = match regMOfIndex i with
      | .reg _ => .next s
      | .mem => if s.allows s.hl .read = true then .next (s.afterRead s.hl) else .fault (.accessViolation s.hl .read) := by
  rw [hostStep, hostGetReg]
  cases regMOfIndex i with
  | reg r => rfl
  | mem => exact memRead_finish _ s

/-- Setting a register; index 6 writes memory at HL. -/
theorem hostStep_setReg (i : Fin 8) (v : Nat) (s : State) :
    hostStep (.setReg i v) s = match regMOfIndex i with
      | .reg r => .next (s.setReg r (BitVec.ofNat 8 v))
      | .mem => if s.allows s.hl .write = true then .next (s.afterWrite s.hl (BitVec.ofNat 8 v))
          else .fault (.accessViolation s.hl .write) := by
  rw [hostStep, hostSetReg]
  cases regMOfIndex i with
  | reg r => rfl
  | mem => exact memWrite_finish _ _ s

theorem requestInterrupt_enabled {s : State} (v : Nat) (h : s.inte = true) :
    requestInterrupt v s = ({ s with intVector := BitVec.ofNat 16 v, intPending := true }, true) := by
  simp [requestInterrupt, h]

theorem requestInterrupt_disabled {s : State} (v : Nat) (h : s.inte = false) : requestInterrupt v s = (s, false) := by
  simp [requestInterrupt, h]

/-- Inversion of a host move that answers a next state: everything it can do, by what it changes. -/
theorem hostStep_cases {op : HostOp} {s t : State} (h : hostStep op s = .next t) :
    t = s ∨
    (∃ a, s.allows a .read = true ∧ t = s.afterRead a) ∨
    (∃ a v, s.allows a .write = true ∧ t = s.afterWrite a v) ∨
    (∃ r v, t = s.setReg r v) ∨
    (∃ p w, t = s.setPair p w) ∨
    (∃ w, op = .setPc w ∧ t = s.setPc (BitVec.ofNat 16 w)) ∨
    (∃ w, t = s.setSp w) ∨
    (∃ a bytes, t = s.place a bytes) ∨
    t = clearMemory s ∨
    t = resetMarks s ∨
    (∃ ranges r, s.variant = .checked ranges ∧ r.wf = true ∧ t = { s with variant := .checked (ranges ++ [r]) }) ∨
    (∃ v, op = .requestInterrupt v ∧ s.inte = true ∧
      t = { s with intVector := BitVec.ofNat 16 v, intPending := true }) := by
  cases op with
  | getReg i =>
    rw [hostStep_getReg] at h
    split at h
    · cases h; exact .inl rfl
    · split at h
      · rename_i ha; cases h; exact .inr (.inl ⟨_, ha, rfl⟩)
      · cases h
  | setReg i v =>
    rw [hostStep_setReg] at h
    split at h
    · cases h; exact .inr (.inr (.inr (.inl ⟨_, _, rfl⟩)))
    · split at h
      · rename_i ha; cases h; exact .inr (.inr (.inl ⟨_, _, ha, rfl⟩))
      · cases h
  | setPair p w => cases h; exact .inr (.inr (.inr (.inr (.inl ⟨_, _, rfl⟩))))
  | setPc w => cases h; exact .inr (.inr (.inr (.inr (.inr (.inl ⟨w, rfl, rfl⟩)))))
  | setSp w => cases h; exact .inr (.inr (.inr (.inr (.inr (.inr (.inl ⟨_, rfl⟩))))))
  | bulkLoad bytes start =>
    simp only [hostStep, bulkLoad] at h
    split at h
    · cases h
    · cases h; exact .inr (.inr (.inr (.inr (.inr (.inr (.inr (.inl ⟨_, _, rfl⟩)))))))
  | clear => cases h; exact .inr (.inr (.inr (.inr (.inr (.inr (.inr (.inr (.inl rfl))))))))
  | read a =>
    rw [hostStep_read] at h
    split at h
    · rename_i ha; cases h; exact .inr (.inl ⟨_, ha, rfl⟩)
    · cases h
  | write a v =>
    rw [hostStep_write] at h
    split at h
    · rename_i ha; cases h; exact .inr (.inr (.inl ⟨_, _, ha, rfl⟩))
    · cases h
  | resetMarks => cases h; exact .inr (.inr (.inr (.inr (.inr (.inr (.inr (.inr (.inr (.inl rfl)))))))))
  | addRange lower upper cap =>
    simp only [hostStep, addRange] at h
    split at h
    · cases h
    · split at h
      · cases h
      · split at h
        · cases h
        · rename_i h1 h2 _ ranges hv
          cases h
          refine .inr (.inr (.inr (.inr (.inr (.inr (.inr (.inr (.inr (.inr (.inl ⟨ranges, ⟨lower, upper, cap⟩, hv, ?_, rfl⟩))))))))))
          simp [PermRange.wf]; omega
  | requestInterrupt v =>
    simp only [hostStep] at h
    by_cases hi : s.inte = true
    · rw [requestInterrupt_enabled v hi] at h
      cases h
      exact .inr (.inr (.inr (.inr (.inr (.inr (.inr (.inr (.inr (.inr (.inr ⟨v, rfl, hi, rfl⟩))))))))))
    · rw [requestInterrupt_disabled v (by simpa using hi)] at h
      cases h
      exact .inl rfl

end Sys2Proof.Machine
end

