-- ==== Sys2Proof/Laws/Updates.lean ====
section
/-! SUPPORT. Beside each compound update: one lemma per field it leaves unchanged, and the fields it changes. -/

namespace Sys2Proof.Machine

variable (s : State)

/-! ### `afterRead16` -/

@[simp] theorem State.afterRead16_regs (a : Word) : (s.afterRead16 a).regs = s.regs := rfl
@[simp] theorem State.afterRead16_flags (a : Word) : (s.afterRead16 a).flags = s.flags := rfl
@[simp] theorem State.afterRead16_pc (a : Word) : (s.afterRead16 a).pc = s.pc := rfl
@[simp] theorem State.afterRead16_sp (a : Word) : (s.afterRead16 a).sp = s.sp := rfl
@[simp] theorem State.afterRead16_inte (a : Word) : (s.afterRead16 a).inte = s.inte := rfl
@[simp] theorem State.afterRead16_intPending (a : Word) : (s.afterRead16 a).intPending = s.intPending := rfl
@[simp] theorem State.afterRead16_intVector (a : Word) : (s.afterRead16 a).intVector = s.intVector := rfl
@[simp] theorem State.afterRead16_mem (a : Word) : (s.afterRead16 a).mem = s.mem := rfl
@[simp] theorem State.afterRead16_writeMarks (a : Word) : (s.afterRead16 a).writeMarks = s.writeMarks := rfl
@[simp] theorem State.afterRead16_variant (a : Word) : (s.afterRead16 a).variant = s.variant := rfl
@[simp] theorem State.afterRead16_marking (a : Word) : (s.afterRead16 a).marking = s.marking := rfl
@[simp] theorem State.afterRead16_figures (a : Word) : (s.afterRead16 a).figures = s.figures := rfl
@[simp] theorem State.afterRead16_figure (a : Word) (o : Byte) (k : Bool) : (s.afterRead16 a).figure o k = s.figure o k := rfl
@[simp] theorem State.afterRead16_tJccNotTaken (a : Word) : (s.afterRead16 a).tJccNotTaken = s.tJccNotTaken := rfl
@[simp] theorem State.afterRead16_device (a : Word) : (s.afterRead16 a).device = s.device := rfl
@[simp] theorem State.afterRead16_tstates (a : Word) : (s.afterRead16 a).tstates = s.tstates := rfl
@[simp] theorem State.afterRead16_events (a : Word) : (s.afterRead16 a).events = s.events := rfl
@[simp] theorem State.afterRead16_draws (a : Word) : (s.afterRead16 a).draws = s.draws := rfl
@[simp] theorem State.afterRead16_allows (a : Word) (x : Word) (dir : Direction) : (s.afterRead16 a).allows x dir = s.allows x dir := rfl
@[simp] theorem State.afterRead16_byteAt (a : Word) (x : Word) : (s.afterRead16 a).byteAt x = s.byteAt x := rfl

/-! ### `afterWrite16` -/

@[simp] theorem State.afterWrite16_regs (a w : Word) : (s.afterWrite16 a w).regs = s.regs := rfl
@[simp] theorem State.afterWrite16_flags (a w : Word) : (s.afterWrite16 a w).flags = s.flags := rfl
@[simp] theorem State.afterWrite16_pc (a w : Word) : (s.afterWrite16 a w).pc = s.pc := rfl
@[simp] theorem State.afterWrite16_sp (a w : Word) : (s.afterWrite16 a w).sp = s.sp := rfl
@[simp] theorem State.afterWrite16_inte (a w : Word) : (s.afterWrite16 a w).inte = s.inte := rfl
@[simp] theorem State.afterWrite16_intPending (a w : Word) : (s.afterWrite16 a w).intPending = s.intPending := rfl
@[simp] theorem State.afterWrite16_intVector (a w : Word) : (s.afterWrite16 a w).intVector = s.intVector := rfl
@[simp] theorem State.afterWrite16_readMarks (a w : Word) : (s.afterWrite16 a w).readMarks = s.readMarks := rfl
@[simp] theorem State.afterWrite16_variant (a w : Word) : (s.afterWrite16 a w).variant = s.variant := rfl
@[simp] theorem State.afterWrite16_marking (a w : Word) : (s.afterWrite16 a w).marking = s.marking := rfl
@[simp] theorem State.afterWrite16_figures (a w : Word) : (s.afterWrite16 a w).figures = s.figures := rfl
@[simp] theorem State.afterWrite16_figure (a w : Word) (o : Byte) (k : Bool) : (s.afterWrite16 a w).figure o k = s.figure o k := rfl
@[simp] theorem State.afterWrite16_tJccNotTaken (a w : Word) : (s.afterWrite16 a w).tJccNotTaken = s.tJccNotTaken := rfl
@[simp] theorem State.afterWrite16_device (a w : Word) : (s.afterWrite16 a w).device = s.device := rfl
@[simp] theorem State.afterWrite16_tstates (a w : Word) : (s.afterWrite16 a w).tstates = s.tstates := rfl
@[simp] theorem State.afterWrite16_events (a w : Word) : (s.afterWrite16 a w).events = s.events := rfl
@[simp] theorem State.afterWrite16_draws (a w : Word) : (s.afterWrite16 a w).draws = s.draws := rfl
@[simp] theorem State.afterWrite16_allows (a w : Word) (x : Word) (dir : Direction) : (s.afterWrite16 a w).allows x dir = s.allows x dir := rfl

/-! ### `afterPush` -/

@[simp] theorem State.afterPush_regs (w : Word) : (s.afterPush w).regs = s.regs := rfl
@[simp] theorem State.afterPush_flags (w : Word) : (s.afterPush w).flags = s.flags := rfl
@[simp] theorem State.afterPush_pc (w : Word) : (s.afterPush w).pc = s.pc := rfl
@[simp] theorem State.afterPush_inte (w : Word) : (s.afterPush w).inte = s.inte := rfl
@[simp] theorem State.afterPush_intPending (w : Word) : (s.afterPush w).intPending = s.intPending := rfl
@[simp] theorem State.afterPush_intVector (w : Word) : (s.afterPush w).intVector = s.intVector := rfl
@[simp] theorem State.afterPush_readMarks (w : Word) : (s.afterPush w).readMarks = s.readMarks := rfl
@[simp] theorem State.afterPush_variant (w : Word) : (s.afterPush w).variant = s.variant := rfl
@[simp] theorem State.afterPush_marking (w : Word) : (s.afterPush w).marking = s.marking := rfl
@[simp] theorem State.afterPush_figures (w : Word) : (s.afterPush w).figures = s.figures := rfl
@[simp] theorem State.afterPush_figure (w : Word) (o : Byte) (k : Bool) : (s.afterPush w).figure o k = s.figure o k := rfl
@[simp] theorem State.afterPush_tJccNotTaken (w : Word) : (s.afterPush w).tJccNotTaken = s.tJccNotTaken := rfl
@[simp] theorem State.afterPush_device (w : Word) : (s.afterPush w).device = s.device := rfl
@[simp] theorem State.afterPush_tstates (w : Word) : (s.afterPush w).tstates = s.tstates := rfl
@[simp] theorem State.afterPush_events (w : Word) : (s.afterPush w).events = s.events := rfl
@[simp] theorem State.afterPush_draws (w : Word) : (s.afterPush w).draws = s.draws := rfl
@[simp] theorem State.afterPush_allows (w : Word) (x : Word) (dir : Direction) : (s.afterPush w).allows x dir = s.allows x dir := rfl

/-! ### `afterPop` -/

@[simp] theorem State.afterPop_regs : (s.afterPop).regs = s.regs := rfl
@[simp] theorem State.afterPop_flags : (s.afterPop).flags = s.flags := rfl
@[simp] theorem State.afterPop_pc : (s.afterPop).pc = s.pc := rfl
@[simp] theorem State.afterPop_inte : (s.afterPop).inte = s.inte := rfl
@[simp] theorem State.afterPop_intPending : (s.afterPop).intPending = s.intPending := rfl
@[simp] theorem State.afterPop_intVector : (s.afterPop).intVector = s.intVector := rfl
@[simp] theorem State.afterPop_mem : (s.afterPop).mem = s.mem := rfl
@[simp] theorem State.afterPop_writeMarks : (s.afterPop).writeMarks = s.writeMarks := rfl
@[simp] theorem State.afterPop_variant : (s.afterPop).variant = s.variant := rfl
@[simp] theorem State.afterPop_marking : (s.afterPop).marking = s.marking := rfl
@[simp] theorem State.afterPop_figures : (s.afterPop).figures = s.figures := rfl
@[simp] theorem State.afterPop_figure (o : Byte) (k : Bool) : (s.afterPop).figure o k = s.figure o k := rfl
@[simp] theorem State.afterPop_tJccNotTaken : (s.afterPop).tJccNotTaken = s.tJccNotTaken := rfl
@[simp] theorem State.afterPop_device : (s.afterPop).device = s.device := rfl
@[simp] theorem State.afterPop_tstates : (s.afterPop).tstates = s.tstates := rfl
@[simp] theorem State.afterPop_events : (s.afterPop).events = s.events := rfl
@[simp] theorem State.afterPop_draws : (s.afterPop).draws = s.draws := rfl
@[simp] theorem State.afterPop_allows (x : Word) (dir : Direction) : (s.afterPop).allows x dir = s.allows x dir := rfl
@[simp] theorem State.afterPop_byteAt (x : Word) : (s.afterPop).byteAt x = s.byteAt x := rfl

/-! ### `afterOperand` -/

@[simp] theorem State.afterOperand_regs (r : RegM) : (s.afterOperand r).regs = s.regs := by cases r <;> rfl
@[simp] theorem State.afterOperand_flags (r : RegM) : (s.afterOperand r).flags = s.flags := by cases r <;> rfl
@[simp] theorem State.afterOperand_pc (r : RegM) : (s.afterOperand r).pc = s.pc := by cases r <;> rfl
@[simp] theorem State.afterOperand_sp (r : RegM) : (s.afterOperand r).sp = s.sp := by cases r <;> rfl
@[simp] theorem State.afterOperand_inte (r : RegM) : (s.afterOperand r).inte = s.inte := by cases r <;> rfl
@[simp] theorem State.afterOperand_intPending (r : RegM) : (s.afterOperand r).intPending = s.intPending := by cases r <;> rfl
@[simp] theorem State.afterOperand_intVector (r : RegM) : (s.afterOperand r).intVector = s.intVector := by cases r <;> rfl
@[simp] theorem State.afterOperand_mem (r : RegM) : (s.afterOperand r).mem = s.mem := by cases r <;> rfl
@[simp] theorem State.afterOperand_writeMarks (r : RegM) : (s.afterOperand r).writeMarks = s.writeMarks := by cases r <;> rfl
@[simp] theorem State.afterOperand_variant (r : RegM) : (s.afterOperand r).variant = s.variant := by cases r <;> rfl
@[simp] theorem State.afterOperand_marking (r : RegM) : (s.afterOperand r).marking = s.marking := by cases r <;> rfl
@[simp] theorem State.afterOperand_figures (r : RegM) : (s.afterOperand r).figures = s.figures := by cases r <;> rfl
@[simp] theorem State.afterOperand_figure (r : RegM) (o : Byte) (k : Bool) : (s.afterOperand r).figure o k = s.figure o k := by rw [State.figure, State.afterOperand_figures]; rfl
@[simp] theorem State.afterOperand_tJccNotTaken (r : RegM) : (s.afterOperand r).tJccNotTaken = s.tJccNotTaken := by cases r <;> rfl
@[simp] theorem State.afterOperand_device (r : RegM) : (s.afterOperand r).device = s.device := by cases r <;> rfl
@[simp] theorem State.afterOperand_tstates (r : RegM) : (s.afterOperand r).tstates = s.tstates := by cases r <;> rfl
@[simp] theorem State.afterOperand_events (r : RegM) : (s.afterOperand r).events = s.events := by cases r <;> rfl
@[simp] theorem State.afterOperand_draws (r : RegM) : (s.afterOperand r).draws = s.draws := by cases r <;> rfl
@[simp] theorem State.afterOperand_allows (r : RegM) (x : Word) (dir : Direction) : (s.afterOperand r).allows x dir = s.allows x dir := by cases r <;> rfl
@[simp] theorem State.afterOperand_byteAt (r : RegM) (x : Word) : (s.afterOperand r).byteAt x = s.byteAt x := by cases r <;> rfl

/-! ### `aluAdd` -/

@[simp] theorem State.aluAdd_pc (v : Byte) (c : Bool) : (aluAdd v c s).pc = s.pc := rfl
@[simp] theorem State.aluAdd_sp (v : Byte) (c : Bool) : (aluAdd v c s).sp = s.sp := rfl
@[simp] theorem State.aluAdd_inte (v : Byte) (c : Bool) : (aluAdd v c s).inte = s.inte := rfl
@[simp] theorem State.aluAdd_intPending (v : Byte) (c : Bool) : (aluAdd v c s).intPending = s.intPending := rfl
@[simp] theorem State.aluAdd_intVector (v : Byte) (c : Bool) : (aluAdd v c s).intVector = s.intVector := rfl
@[simp] theorem State.aluAdd_mem (v : Byte) (c : Bool) : (aluAdd v c s).mem = s.mem := rfl
@[simp] theorem State.aluAdd_readMarks (v : Byte) (c : Bool) : (aluAdd v c s).readMarks = s.readMarks := rfl
@[simp] theorem State.aluAdd_writeMarks (v : Byte) (c : Bool) : (aluAdd v c s).writeMarks = s.writeMarks := rfl
@[simp] theorem State.aluAdd_variant (v : Byte) (c : Bool) : (aluAdd v c s).variant = s.variant := rfl
@[simp] theorem State.aluAdd_marking (v : Byte) (c : Bool) : (aluAdd v c s).marking = s.marking := rfl
@[simp] theorem State.aluAdd_figures (v : Byte) (c : Bool) : (aluAdd v c s).figures = s.figures := rfl
@[simp] theorem State.aluAdd_figure (v : Byte) (c : Bool) (o : Byte) (k : Bool) : (aluAdd v c s).figure o k = s.figure o k := rfl
@[simp] theorem State.aluAdd_tJccNotTaken (v : Byte) (c : Bool) : (aluAdd v c s).tJccNotTaken = s.tJccNotTaken := rfl
@[simp] theorem State.aluAdd_device (v : Byte) (c : Bool) : (aluAdd v c s).device = s.device := rfl
@[simp] theorem State.aluAdd_tstates (v : Byte) (c : Bool) : (aluAdd v c s).tstates = s.tstates := rfl
@[simp] theorem State.aluAdd_events (v : Byte) (c : Bool) : (aluAdd v c s).events = s.events := rfl
@[simp] theorem State.aluAdd_draws (v : Byte) (c : Bool) : (aluAdd v c s).draws = s.draws := rfl
@[simp] theorem State.aluAdd_allows (v : Byte) (c : Bool) (x : Word) (dir : Direction) : (aluAdd v c s).allows x dir = s.allows x dir := rfl
@[simp] theorem State.aluAdd_byteAt (v : Byte) (c : Bool) (x : Word) : (aluAdd v c s).byteAt x = s.byteAt x := rfl

/-! ### `afterFetch` -/

@[simp] theorem State.afterFetch_regs (n : Nat) : (s.afterFetch n).regs = s.regs := by
  induction n generalizing s with
  | zero => rfl
  | succ n ih => exact ih _
@[simp] theorem State.afterFetch_flags (n : Nat) : (s.afterFetch n).flags = s.flags := by
  induction n generalizing s with
  | zero => rfl
  | succ n ih => exact ih _
@[simp] theorem State.afterFetch_sp (n : Nat) : (s.afterFetch n).sp = s.sp := by
  induction n generalizing s with
  | zero => rfl
  | succ n ih => exact ih _
@[simp] theorem State.afterFetch_inte (n : Nat) : (s.afterFetch n).inte = s.inte := by
  induction n generalizing s with
  | zero => rfl
  | succ n ih => exact ih _
@[simp] theorem State.afterFetch_intPending (n : Nat) : (s.afterFetch n).intPending = s.intPending := by
  induction n generalizing s with
  | zero => rfl
  | succ n ih => exact ih _
@[simp] theorem State.afterFetch_intVector (n : Nat) : (s.afterFetch n).intVector = s.intVector := by
  induction n generalizing s with
  | zero => rfl
  | succ n ih => exact ih _
@[simp] theorem State.afterFetch_mem (n : Nat) : (s.afterFetch n).mem = s.mem := by
  induction n generalizing s with
  | zero => rfl
  | succ n ih => exact ih _
@[simp] theorem State.afterFetch_writeMarks (n : Nat) : (s.afterFetch n).writeMarks = s.writeMarks := by
  induction n generalizing s with
  | zero => rfl
  | succ n ih => exact ih _
@[simp] theorem State.afterFetch_variant (n : Nat) : (s.afterFetch n).variant = s.variant := by
  induction n generalizing s with
  | zero => rfl
  | succ n ih => exact ih _
@[simp] theorem State.afterFetch_marking (n : Nat) : (s.afterFetch n).marking = s.marking := by
  induction n generalizing s with
  | zero => rfl
  | succ n ih => exact ih _
@[simp] theorem State.afterFetch_figures (n : Nat) : (s.afterFetch n).figures = s.figures := by
  induction n generalizing s with
  | zero => rfl
  | succ n ih => exact ih _
@[simp] theorem State.afterFetch_figure (n : Nat) (o : Byte) (k : Bool) : (s.afterFetch n).figure o k = s.figure o k := by rw [State.figure, State.afterFetch_figures]; rfl
@[simp] theorem State.afterFetch_tJccNotTaken (n : Nat) : (s.afterFetch n).tJccNotTaken = s.tJccNotTaken := by
  induction n generalizing s with
  | zero => rfl
  | succ n ih => exact ih _
@[simp] theorem State.afterFetch_device (n : Nat) : (s.afterFetch n).device = s.device := by
  induction n generalizing s with
  | zero => rfl
  | succ n ih => exact ih _
@[simp] theorem State.afterFetch_tstates (n : Nat) : (s.afterFetch n).tstates = s.tstates := by
  induction n generalizing s with
  | zero => rfl
  | succ n ih => exact ih _
@[simp] theorem State.afterFetch_events (n : Nat) : (s.afterFetch n).events = s.events := by
  induction n generalizing s with
  | zero => rfl
  | succ n ih => exact ih _
@[simp] theorem State.afterFetch_draws (n : Nat) : (s.afterFetch n).draws = s.draws := by
  induction n generalizing s with
  | zero => rfl
  | succ n ih => exact ih _
@[simp] theorem State.afterFetch_allows (n : Nat) (x : Word) (dir : Direction) : (s.afterFetch n).allows x dir = s.allows x dir := by simp only [State.allows, State.afterFetch_variant]
@[simp] theorem State.afterFetch_byteAt (n : Nat) (x : Word) : (s.afterFetch n).byteAt x = s.byteAt x := by simp only [State.byteAt, State.afterFetch_mem]

@[simp] theorem State.afterPush_sp (w : Word) : (s.afterPush w).sp = s.sp - 2 := rfl
@[simp] theorem State.afterPop_sp : s.afterPop.sp = s.sp + 2 := rfl

/-- An ALU operation writes no register but A. -/
theorem State.aluApply_get (op : AluOp) (v : Byte) {r : Reg} (h : r ≠ .a) : (aluApply op v s).regs.get r = s.regs.get r := by
  cases op <;> cases r <;> first | rfl | exact absurd rfl h

end Sys2Proof.Machine
end

