-- ==== Sys2Proof/Laws/NextState.lean ====
section
/-! SUPPORT. The next state an instruction answers when no access is denied, family by family, and the one equation of
`exec` over it: proofs about all instructions cite `exec_eq` and go through `instr_by_family` on `nextState`. -/

namespace Sys2Proof.Machine

/-- The next state of an instruction whose accesses are all allowed: what it answers under the plain variant. -/
def nextState (i : Instr) (s : State) : State :=
  match exec i { s with variant := .plain } with
  | .next t => { t with variant := s.variant }
  | .fault _ => s
  | .refused _ => s

/-- With every access allowed an answer is its next state. -/
theorem answer_of_allowed {s t : State} {xs : List (Word × Direction)} (h : ∀ x ∈ xs, s.allows x.1 x.2 = true) :
    answer (s.firstDenied xs) t = .next t := by rw [State.firstDenied_eq_none.mpr h]; rfl

/-- From an answer of the plain variant. -/
theorem nextState_of_answer {i : Instr} {s : State} {xs : List (Word × Direction)} {t : State}
    (h : exec i { s with variant := .plain } = answer ({ s with variant := MemVariant.plain }.firstDenied xs) t) :
    nextState i s = { t with variant := s.variant } := by
  rw [nextState, h, State.firstDenied_plain rfl]
  rfl

@[simp] theorem nextState_movOf (dst : Reg) (r : Reg) (s : State) :
    nextState (.movOf dst r) s = (s.setReg dst (s.getReg r)).withT (s.figure (0b01#2 ++ dst.field ++ r.field) true) :=
  (nextState_of_answer ((exec_movOf dst r _).trans (movRegister_eq dst r _))).trans rfl

@[simp] theorem nextState_movFromMOf (dst : Reg) (s : State) :
    nextState (.movFromMOf dst) s = ((s.afterRead s.hl).setReg dst (s.byteAt s.hl)).withT (s.figure (0b01#2 ++ dst.field ++ 0b110#3) true) :=
  (nextState_of_answer ((exec_movFromMOf dst _).trans (movFromMemory_eq dst _))).trans rfl

@[simp] theorem nextState_movToMOf (r : Reg) (s : State) :
    nextState (.movToMOf r) s = (s.afterWrite s.hl (s.getReg r)).withT (s.figure (0b01110#5 ++ r.field) true) :=
  (nextState_of_answer ((exec_movToMOf r _).trans (movToMemory_eq r _))).trans rfl

@[simp] theorem nextState_mviOf (r : Reg) (v : Byte) (s : State) :
    nextState (.mviOf r v) s = (s.setReg r v).withT (s.figure (0b00#2 ++ r.field ++ 0b110#3) true) :=
  (nextState_of_answer ((exec_mviOf r v _).trans (mviRegister_eq r v _))).trans rfl

@[simp] theorem nextState_mviM (v : Byte) (s : State) :
    nextState (.mviM v) s = (s.afterWrite s.hl v).withT (s.figure 0x36#8 true) :=
  (nextState_of_answer ((exec_mviM v _).trans (mviMemory_eq v _))).trans rfl

@[simp] theorem nextState_lxiOf (p : RegPair) (w : Word) (s : State) :
    nextState (.lxiOf p w) s = (s.setPair p w).withT (s.figure (0b00#2 ++ p.field ++ 0b0001#4) true) :=
  (nextState_of_answer ((exec_lxiOf p w _).trans (loadPairImmediate_eq p w _))).trans (by cases p <;> rfl)

@[simp] theorem nextState_lda (a : Word) (s : State) :
    nextState (.lda a) s = ((s.afterRead a).setReg .a (s.byteAt a)).withT (s.figure 0x3A#8 true) :=
  (nextState_of_answer ((exec_lda a _).trans (loadDirect_eq a _))).trans rfl

@[simp] theorem nextState_sta (a : Word) (s : State) :
    nextState (.sta a) s = (s.afterWrite a s.regs.a).withT (s.figure 0x32#8 true) :=
  (nextState_of_answer ((exec_sta a _).trans (storeDirect_eq a _))).trans rfl

@[simp] theorem nextState_lhld (a : Word) (s : State) :
    nextState (.lhld a) s = ((s.afterRead16 a).setPair .hl (s.wordAt a)).withT (s.figure 0x2A#8 true) :=
  (nextState_of_answer ((exec_lhld a _).trans (loadHlDirect_eq a _))).trans rfl

@[simp] theorem nextState_shld (a : Word) (s : State) :
    nextState (.shld a) s = (s.afterWrite16 a s.hl).withT (s.figure 0x22#8 true) :=
  (nextState_of_answer ((exec_shld a _).trans (storeHlDirect_eq a _))).trans rfl

@[simp] theorem nextState_ldaxOf (p : IndexPair) (s : State) :
    nextState (.ldaxOf p) s = ((s.afterRead (s.getPair (indexRegPair p))).setReg .a (s.byteAt (s.getPair (indexRegPair p)))).withT (s.figure (0b000#3 ++ p.field ++ 0b1010#4) true) :=
  (nextState_of_answer ((exec_ldaxOf p _).trans (loadIndexed_eq p _))).trans rfl

@[simp] theorem nextState_staxOf (p : IndexPair) (s : State) :
    nextState (.staxOf p) s = (s.afterWrite (s.getPair (indexRegPair p)) s.regs.a).withT (s.figure (0b000#3 ++ p.field ++ 0b0010#4) true) :=
  (nextState_of_answer ((exec_staxOf p _).trans (storeIndexed_eq p _))).trans rfl

@[simp] theorem nextState_xchg (s : State) :
    nextState .xchg s = { s with regs := { s.regs with d := s.regs.h, e := s.regs.l, h := s.regs.d, l := s.regs.e } }.withT (s.figure 0xEB#8 true) :=
  (nextState_of_answer ((exec_xchg  _).trans (exchangeHlDe_eq _))).trans rfl

@[simp] theorem nextState_aluOf (op : AluOp) (r : RegM) (s : State) :
    nextState (.aluOf op r) s = (aluApply op (s.operandValue r) (s.afterOperand r)).withT (s.figure (0b10#2 ++ op.field ++ r.field) true) :=
  (nextState_of_answer ((exec_aluOf op r _).trans (aluOperand_eq op r _))).trans (by cases op <;> cases r <;> rfl)

@[simp] theorem nextState_aluImmOf (op : AluOp) (v : Byte) (s : State) :
    nextState (.aluImmOf op v) s = (aluApply op v s).withT (s.figure (0b11#2 ++ op.field ++ 0b110#3) true) :=
  (nextState_of_answer ((exec_aluImmOf op v _).trans (aluImmediate_eq op v _))).trans (by cases op <;> rfl)

@[simp] theorem nextState_inrOf (r : Reg) (s : State) :
    nextState (.inrOf r) s = ((s.setReg r (s.getReg r + 1)).setFlags (s.flags.afterInr (s.getReg r + 1))).withT (s.figure (0b00#2 ++ r.field ++ 0b100#3) true) :=
  (nextState_of_answer ((exec_inrOf r _).trans (incrementRegister_eq r _))).trans rfl

@[simp] theorem nextState_inrM (s : State) :
    nextState .inrM s = (((s.afterRead s.hl).setFlags (s.flags.afterInr (s.byteAt s.hl + 1))).afterWrite s.hl (s.byteAt s.hl + 1)).withT (s.figure 0x34#8 true) :=
  (nextState_of_answer ((exec_inrM  _).trans (incrementMemory_eq _))).trans rfl

@[simp] theorem nextState_dcrOf (r : Reg) (s : State) :
    nextState (.dcrOf r) s = ((s.setReg r (s.getReg r - 1)).setFlags (s.flags.afterDcr (s.getReg r - 1))).withT (s.figure (0b00#2 ++ r.field ++ 0b101#3) true) :=
  (nextState_of_answer ((exec_dcrOf r _).trans (decrementRegister_eq r _))).trans rfl

@[simp] theorem nextState_dcrM (s : State) :
    nextState .dcrM s = (((s.afterRead s.hl).setFlags (s.flags.afterDcr (s.byteAt s.hl - 1))).afterWrite s.hl (s.byteAt s.hl - 1)).withT (s.figure 0x35#8 true) :=
  (nextState_of_answer ((exec_dcrM  _).trans (decrementMemory_eq _))).trans rfl

@[simp] theorem nextState_inxOf (p : RegPair) (s : State) :
    nextState (.inxOf p) s = (s.setPair p (s.getPair p + 1)).withT (s.figure (0b00#2 ++ p.field ++ 0b0011#4) true) :=
  (nextState_of_answer ((exec_inxOf p _).trans (incrementPair_eq p _))).trans (by cases p <;> rfl)

@[simp] theorem nextState_dcxOf (p : RegPair) (s : State) :
    nextState (.dcxOf p) s = (s.setPair p (s.getPair p - 1)).withT (s.figure (0b00#2 ++ p.field ++ 0b1011#4) true) :=
  (nextState_of_answer ((exec_dcxOf p _).trans (decrementPair_eq p _))).trans (by cases p <;> rfl)

@[simp] theorem nextState_dadOf (p : RegPair) (s : State) :
    nextState (.dadOf p) s = ((s.setPair .hl (BitVec.ofNat 16 (s.hl.toNat + (s.getPair p).toNat))).setCy (decide (65536 ≤ s.hl.toNat + (s.getPair p).toNat))).withT (s.figure (0b00#2 ++ p.field ++ 0b1001#4) true) :=
  (nextState_of_answer ((exec_dadOf p _).trans (addPairToHl_eq p _))).trans (by cases p <;> rfl)

@[simp] theorem nextState_daa (s : State) :
    nextState .daa s = ((aluAdd (daaAdjust s.regs.a s.flags.ac s.flags.cy) false s).setCy (daaHighAdjust s.regs.a s.flags.cy)).withT (s.figure 0x27#8 true) :=
  (nextState_of_answer ((exec_daa  _).trans (decimalAdjust_eq _))).trans rfl

@[simp] theorem nextState_rlc (s : State) :
    nextState .rlc s = ((s.setReg .a (s.regs.a.extractLsb' 0 7 ++ BitVec.ofBool (s.regs.a.getLsbD 7))).setCy (s.regs.a.getLsbD 7)).withT (s.figure 0x07#8 true) :=
  (nextState_of_answer ((exec_rlc  _).trans (rotateLeft_eq _))).trans rfl

@[simp] theorem nextState_rrc (s : State) :
    nextState .rrc s = ((s.setReg .a (BitVec.ofBool (s.regs.a.getLsbD 0) ++ s.regs.a.extractLsb' 1 7)).setCy (s.regs.a.getLsbD 0)).withT (s.figure 0x0F#8 true) :=
  (nextState_of_answer ((exec_rrc  _).trans (rotateRight_eq _))).trans rfl

@[simp] theorem nextState_ral (s : State) :
    nextState .ral s = ((s.setReg .a (s.regs.a.extractLsb' 0 7 ++ BitVec.ofBool s.flags.cy)).setCy (s.regs.a.getLsbD 7)).withT (s.figure 0x17#8 true) :=
  (nextState_of_answer ((exec_ral  _).trans (rotateLeftThroughCarry_eq _))).trans rfl

@[simp] theorem nextState_rar (s : State) :
    nextState .rar s = ((s.setReg .a (BitVec.ofBool s.flags.cy ++ s.regs.a.extractLsb' 1 7)).setCy (s.regs.a.getLsbD 0)).withT (s.figure 0x1F#8 true) :=
  (nextState_of_answer ((exec_rar  _).trans (rotateRightThroughCarry_eq _))).trans rfl

@[simp] theorem nextState_cma (s : State) :
    nextState .cma s = (s.setReg .a (s.regs.a ^^^ 0xFF#8)).withT (s.figure 0x2F#8 true) :=
  (nextState_of_answer ((exec_cma  _).trans (complementAccumulator_eq _))).trans rfl

@[simp] theorem nextState_stc (s : State) :
    nextState .stc s = (s.setCy true).withT (s.figure 0x37#8 true) :=
  (nextState_of_answer ((exec_stc  _).trans (setCarry_eq _))).trans rfl

@[simp] theorem nextState_cmc (s : State) :
    nextState .cmc s = (s.setCy (!s.flags.cy)).withT (s.figure 0x3F#8 true) :=
  (nextState_of_answer ((exec_cmc  _).trans (complementCarry_eq _))).trans rfl

@[simp] theorem nextState_jmp (a : Word) (s : State) :
    nextState (.jmp a) s = (s.setPc a).withT (s.figure 0xC3#8 true) :=
  (nextState_of_answer ((exec_jmp a _).trans (jumpAlways_eq a _))).trans rfl

@[simp] theorem nextState_jmpAlias (a : Word) (s : State) :
    nextState (.jmpAlias a) s = (s.setPc a).withT (s.figure 0xC3#8 true) :=
  (nextState_of_answer ((exec_jmpAlias a _).trans (jumpAlways_eq a _))).trans rfl

@[simp] theorem nextState_jccOf (cond : Cond) (a : Word) (s : State) :
    nextState (.jccOf cond a) s = if s.flags.satisfies cond then (s.setPc a).withT (s.figure (0b11#2 ++ cond.field ++ 0b010#3) true) else s.withT s.tJccNotTaken :=
  (nextState_of_answer ((exec_jccOf cond a _).trans (jumpIf_eq cond a _))).trans (by cases s.flags.satisfies cond <;> rfl)

@[simp] theorem nextState_call (a : Word) (s : State) :
    nextState (.call a) s = ((s.afterPush s.pc).setPc a).withT (s.figure 0xCD#8 true) :=
  (nextState_of_answer ((exec_call a _).trans (callTo_eq a _))).trans rfl

@[simp] theorem nextState_callAlias (pp : BitVec 2) (a : Word) (s : State) :
    nextState (.callAlias pp a) s = ((s.afterPush s.pc).setPc a).withT (s.figure 0xCD#8 true) :=
  (nextState_of_answer ((exec_callAlias pp a _).trans (callTo_eq a _))).trans rfl

@[simp] theorem nextState_cccOf (cond : Cond) (a : Word) (s : State) :
    nextState (.cccOf cond a) s = if s.flags.satisfies cond then ((s.afterPush s.pc).setPc a).withT (s.figure (0b11#2 ++ cond.field ++ 0b100#3) true) else s.withT (s.figure (0b11#2 ++ cond.field ++ 0b100#3) false) :=
  (nextState_of_answer ((exec_cccOf cond a _).trans (callIf_eq cond a _))).trans (by cases s.flags.satisfies cond <;> rfl)

@[simp] theorem nextState_ret (s : State) :
    nextState .ret s = (s.afterPop.setPc (s.wordAt s.sp)).withT (s.figure 0xC9#8 true) :=
  (nextState_of_answer ((exec_ret  _).trans (returnFrom_eq _))).trans rfl

@[simp] theorem nextState_retAlias (s : State) :
    nextState .retAlias s = (s.afterPop.setPc (s.wordAt s.sp)).withT (s.figure 0xC9#8 true) :=
  (nextState_of_answer ((exec_retAlias  _).trans (returnFrom_eq _))).trans rfl

@[simp] theorem nextState_rccOf (cond : Cond) (s : State) :
    nextState (.rccOf cond) s = if s.flags.satisfies cond then (s.afterPop.setPc (s.wordAt s.sp)).withT (s.figure (0b11#2 ++ cond.field ++ 0b000#3) true) else s.withT (s.figure (0b11#2 ++ cond.field ++ 0b000#3) false) :=
  (nextState_of_answer ((exec_rccOf cond _).trans (returnIf_eq cond _))).trans (by cases s.flags.satisfies cond <;> rfl)

@[simp] theorem nextState_rstOf (n : Fin 8) (s : State) :
    nextState (.rstOf n) s = ((s.afterPush s.pc).setPc (restartTarget n)).withT (s.figure (0b11#2 ++ BitVec.ofNat 3 n.val ++ 0b111#3) true) :=
  (nextState_of_answer ((exec_rstOf n _).trans (restart_eq n _))).trans rfl

@[simp] theorem nextState_pchl (s : State) :
    nextState .pchl s = (s.setPc s.hl).withT (s.figure 0xE9#8 true) :=
  (nextState_of_answer ((exec_pchl  _).trans (jumpToHl_eq _))).trans rfl

@[simp] theorem nextState_inPort (port : Byte) (s : State) :
    nextState (.inPort port) s = ((ioIn port s).2.setReg .a (ioIn port s).1).withT (s.figure 0xDB#8 true) :=
  (nextState_of_answer ((exec_inPort port _).trans (inputFrom_eq port _))).trans (by
    rcases s with ⟨_, _, _, _, _, _, _, _, _, _, _, _, _, _, device, _, _, _⟩
    rcases device with _ | (_ | _) <;> rfl)

@[simp] theorem nextState_outPort (port : Byte) (s : State) :
    nextState (.outPort port) s = (s.record (.output port s.regs.a)).withT (s.figure 0xD3#8 true) :=
  (nextState_of_answer ((exec_outPort port _).trans (outputTo_eq port _))).trans rfl

@[simp] theorem nextState_nopAlias (nnn : BitVec 3) (s : State) :
    nextState (.nopAlias nnn) s = s.withT (s.figure 0x00#8 true) :=
  (nextState_of_answer ((exec_nopAlias nnn _).trans (noOperation_eq _))).trans rfl

@[simp] theorem nextState_nop (s : State) :
    nextState .nop s = s.withT (s.figure 0x00#8 true) :=
  (nextState_of_answer ((exec_nop  _).trans (noOperation_eq _))).trans rfl

@[simp] theorem nextState_pushOf (p : StackPair) (s : State) :
    nextState (.pushOf p) s = (s.afterPush (s.getPair (stackRegPair p))).withT (s.figure (0b11#2 ++ p.field ++ 0b0101#4) true) :=
  (nextState_of_answer ((exec_pushOf p _).trans (pushPair_eq p _))).trans rfl

@[simp] theorem nextState_pushPSW (s : State) :
    nextState .pushPSW s = (s.afterPush (wordOf s.regs.a (packPSW s.flags))).withT (s.figure 0xF5#8 true) :=
  (nextState_of_answer ((exec_pushPSW  _).trans (pushStatus_eq _))).trans rfl

@[simp] theorem nextState_popOf (p : StackPair) (s : State) :
    nextState (.popOf p) s = (s.afterPop.setPair (stackRegPair p) (s.wordAt s.sp)).withT (s.figure (0b11#2 ++ p.field ++ 0b0001#4) true) :=
  (nextState_of_answer ((exec_popOf p _).trans (popPair_eq p _))).trans (by cases p <;> rfl)

@[simp] theorem nextState_popPSW (s : State) :
    nextState .popPSW s = (s.afterPop.withAF (s.byteAt (s.sp + 1)) (unpackPSW (s.byteAt s.sp))).withT (s.figure 0xF1#8 true) :=
  (nextState_of_answer ((exec_popPSW  _).trans (popStatus_eq _))).trans rfl

@[simp] theorem nextState_xthl (s : State) :
    nextState .xthl s = (((s.afterRead16 s.sp).afterWrite16 s.sp s.hl).setPair .hl (s.wordAt s.sp)).withT (s.figure 0xE3#8 true) :=
  (nextState_of_answer ((exec_xthl  _).trans (exchangeStackTop_eq _))).trans rfl

@[simp] theorem nextState_sphl (s : State) :
    nextState .sphl s = (s.setSp s.hl).withT (s.figure 0xF9#8 true) :=
  (nextState_of_answer ((exec_sphl  _).trans (stackPointerFromHl_eq _))).trans rfl

@[simp] theorem nextState_ei (s : State) :
    nextState .ei s = ((s.setInte true).record (.inte true)).withT (s.figure 0xFB#8 true) :=
  (nextState_of_answer ((exec_ei  _).trans (setInterruptEnable_eq true _))).trans rfl

@[simp] theorem nextState_di (s : State) :
    nextState .di s = ((s.setInte false).record (.inte false)).withT (s.figure 0xF3#8 true) :=
  (nextState_of_answer ((exec_di  _).trans (setInterruptEnable_eq false _))).trans rfl

@[simp] theorem nextState_hlt (s : State) :
    nextState .hlt s = (s.setPc (s.pc - 1)).withT (s.figure 0x76#8 true) :=
  (nextState_of_answer ((exec_hlt  _).trans (haltBackUp_eq _))).trans rfl

/-- Every instruction answers its next state, or the violation of its first denied access. -/
theorem exec_eq (i : Instr) (s : State) : exec i s = answer (s.firstDenied (dataAccesses i s)) (nextState i s) := by
  revert s
  apply instr_by_family (P := fun i => ∀ s, exec i s = answer (s.firstDenied (dataAccesses i s)) (nextState i s))
  · intro dst r s
    rw [exec_movOf, nextState_movOf, dataAccesses, loadedFrom_movOf, storedTo_movOf]
    exact movRegister_eq dst r s
  · intro dst s
    rw [exec_movFromMOf, nextState_movFromMOf, dataAccesses, loadedFrom_movFromMOf, storedTo_movFromMOf]
    exact movFromMemory_eq dst s
  · intro r s
    rw [exec_movToMOf, nextState_movToMOf, dataAccesses, loadedFrom_movToMOf, storedTo_movToMOf]
    exact movToMemory_eq r s
  · intro r v s
    rw [exec_mviOf, nextState_mviOf, dataAccesses, loadedFrom_mviOf, storedTo_mviOf]
    exact mviRegister_eq r v s
  · intro v s
    rw [exec_mviM, nextState_mviM, dataAccesses, loadedFrom_mviM, storedTo_mviM]
    exact mviMemory_eq v s
  · intro p w s
    rw [exec_lxiOf, nextState_lxiOf, dataAccesses, loadedFrom_lxiOf, storedTo_lxiOf]
    exact loadPairImmediate_eq p w s
  · intro a s
    rw [exec_lda, nextState_lda, dataAccesses, loadedFrom_lda, storedTo_lda]
    exact loadDirect_eq a s
  · intro a s
    rw [exec_sta, nextState_sta, dataAccesses, loadedFrom_sta, storedTo_sta]
    exact storeDirect_eq a s
  · intro a s
    rw [exec_lhld, nextState_lhld, dataAccesses, loadedFrom_lhld, storedTo_lhld]
    exact loadHlDirect_eq a s
  · intro a s
    rw [exec_shld, nextState_shld, dataAccesses, loadedFrom_shld, storedTo_shld]
    exact storeHlDirect_eq a s
  · intro p s
    rw [exec_ldaxOf, nextState_ldaxOf, dataAccesses, loadedFrom_ldaxOf, storedTo_ldaxOf]
    exact loadIndexed_eq p s
  · intro p s
    rw [exec_staxOf, nextState_staxOf, dataAccesses, loadedFrom_staxOf, storedTo_staxOf]
    exact storeIndexed_eq p s
  · intro s
    rw [exec_xchg, nextState_xchg, dataAccesses, loadedFrom_xchg, storedTo_xchg]
    exact exchangeHlDe_eq s
  · intro op r s
    rw [exec_aluOf, nextState_aluOf, dataAccesses, loadedFrom_aluOf, storedTo_aluOf, aluOperand_eq]
    cases r <;> rfl
  · intro op v s
    rw [exec_aluImmOf, nextState_aluImmOf, dataAccesses, loadedFrom_aluImmOf, storedTo_aluImmOf]
    exact aluImmediate_eq op v s
  · intro r s
    rw [exec_inrOf, nextState_inrOf, dataAccesses, loadedFrom_inrOf, storedTo_inrOf]
    exact incrementRegister_eq r s
  · intro s
    rw [exec_inrM, nextState_inrM, dataAccesses, loadedFrom_inrM, storedTo_inrM]
    exact incrementMemory_eq s
  · intro r s
    rw [exec_dcrOf, nextState_dcrOf, dataAccesses, loadedFrom_dcrOf, storedTo_dcrOf]
    exact decrementRegister_eq r s
  · intro s
    rw [exec_dcrM, nextState_dcrM, dataAccesses, loadedFrom_dcrM, storedTo_dcrM]
    exact decrementMemory_eq s
  · intro p s
    rw [exec_inxOf, nextState_inxOf, dataAccesses, loadedFrom_inxOf, storedTo_inxOf]
    exact incrementPair_eq p s
  · intro p s
    rw [exec_dcxOf, nextState_dcxOf, dataAccesses, loadedFrom_dcxOf, storedTo_dcxOf]
    exact decrementPair_eq p s
  · intro p s
    rw [exec_dadOf, nextState_dadOf, dataAccesses, loadedFrom_dadOf, storedTo_dadOf]
    exact addPairToHl_eq p s
  · intro s
    rw [exec_daa, nextState_daa, dataAccesses, loadedFrom_daa, storedTo_daa]
    exact decimalAdjust_eq s
  · intro s
    rw [exec_rlc, nextState_rlc, dataAccesses, loadedFrom_rlc, storedTo_rlc]
    exact rotateLeft_eq s
  · intro s
    rw [exec_rrc, nextState_rrc, dataAccesses, loadedFrom_rrc, storedTo_rrc]
    exact rotateRight_eq s
  · intro s
    rw [exec_ral, nextState_ral, dataAccesses, loadedFrom_ral, storedTo_ral]
    exact rotateLeftThroughCarry_eq s
  · intro s
    rw [exec_rar, nextState_rar, dataAccesses, loadedFrom_rar, storedTo_rar]
    exact rotateRightThroughCarry_eq s
  · intro s
    rw [exec_cma, nextState_cma, dataAccesses, loadedFrom_cma, storedTo_cma]
    exact complementAccumulator_eq s
  · intro s
    rw [exec_stc, nextState_stc, dataAccesses, loadedFrom_stc, storedTo_stc]
    exact setCarry_eq s
  · intro s
    rw [exec_cmc, nextState_cmc, dataAccesses, loadedFrom_cmc, storedTo_cmc]
    exact complementCarry_eq s
  · intro a s
    rw [exec_jmp, nextState_jmp, dataAccesses, loadedFrom_jmp, storedTo_jmp]
    exact jumpAlways_eq a s
  · intro a s
    rw [exec_jmpAlias, nextState_jmpAlias, dataAccesses, loadedFrom_jmpAlias, storedTo_jmpAlias]
    exact jumpAlways_eq a s
  · intro cond a s
    rw [exec_jccOf, nextState_jccOf, dataAccesses, loadedFrom_jccOf, storedTo_jccOf, jumpIf_eq]
    cases s.flags.satisfies cond <;> rfl
  · intro a s
    rw [exec_call, nextState_call, dataAccesses, loadedFrom_call, storedTo_call]
    exact callTo_eq a s
  · intro pp a s
    rw [exec_callAlias, nextState_callAlias, dataAccesses, loadedFrom_callAlias, storedTo_callAlias]
    exact callTo_eq a s
  · intro cond a s
    rw [exec_cccOf, nextState_cccOf, dataAccesses, loadedFrom_cccOf, storedTo_cccOf, callIf_eq]
    cases s.flags.satisfies cond <;> rfl
  · intro s
    rw [exec_ret, nextState_ret, dataAccesses, loadedFrom_ret, storedTo_ret]
    exact returnFrom_eq s
  · intro s
    rw [exec_retAlias, nextState_retAlias, dataAccesses, loadedFrom_retAlias, storedTo_retAlias]
    exact returnFrom_eq s
  · intro cond s
    rw [exec_rccOf, nextState_rccOf, dataAccesses, loadedFrom_rccOf, storedTo_rccOf, returnIf_eq]
    cases s.flags.satisfies cond <;> rfl
  · intro n s
    rw [exec_rstOf, nextState_rstOf, dataAccesses, loadedFrom_rstOf, storedTo_rstOf]
    exact restart_eq n s
  · intro s
    rw [exec_pchl, nextState_pchl, dataAccesses, loadedFrom_pchl, storedTo_pchl]
    exact jumpToHl_eq s
  · intro port s
    rw [exec_inPort, nextState_inPort, dataAccesses, loadedFrom_inPort, storedTo_inPort]
    exact inputFrom_eq port s
  · intro port s
    rw [exec_outPort, nextState_outPort, dataAccesses, loadedFrom_outPort, storedTo_outPort]
    exact outputTo_eq port s
  · intro nnn s
    rw [exec_nopAlias, nextState_nopAlias, dataAccesses, loadedFrom_nopAlias, storedTo_nopAlias]
    exact noOperation_eq s
  · intro s
    rw [exec_nop, nextState_nop, dataAccesses, loadedFrom_nop, storedTo_nop]
    exact noOperation_eq s
  · intro p s
    rw [exec_pushOf, nextState_pushOf, dataAccesses, loadedFrom_pushOf, storedTo_pushOf]
    exact pushPair_eq p s
  · intro s
    rw [exec_pushPSW, nextState_pushPSW, dataAccesses, loadedFrom_pushPSW, storedTo_pushPSW]
    exact pushStatus_eq s
  · intro p s
    rw [exec_popOf, nextState_popOf, dataAccesses, loadedFrom_popOf, storedTo_popOf]
    exact popPair_eq p s
  · intro s
    rw [exec_popPSW, nextState_popPSW, dataAccesses, loadedFrom_popPSW, storedTo_popPSW]
    exact popStatus_eq s
  · intro s
    rw [exec_xthl, nextState_xthl, dataAccesses, loadedFrom_xthl, storedTo_xthl]
    exact exchangeStackTop_eq s
  · intro s
    rw [exec_sphl, nextState_sphl, dataAccesses, loadedFrom_sphl, storedTo_sphl]
    exact stackPointerFromHl_eq s
  · intro s
    rw [exec_ei, nextState_ei, dataAccesses, loadedFrom_ei, storedTo_ei]
    exact setInterruptEnable_eq true s
  · intro s
    rw [exec_di, nextState_di, dataAccesses, loadedFrom_di, storedTo_di]
    exact setInterruptEnable_eq false s
  · intro s
    rw [exec_hlt, nextState_hlt, dataAccesses, loadedFrom_hlt, storedTo_hlt]
    exact haltBackUp_eq s

end Sys2Proof.Machine
end

