-- ==== Sys2Proof/Laws/PerInstr.lean ====
section
/-! SUPPORT. The per-instruction family EncodedLength, one lemma for each constructor: a well-formed instruction is
encoded in as many bytes as the format of its opcode byte says (30_encoding.md R100, R105). -/

namespace Sys2Proof.Laws.EncodedLength

/-- The encoding starts with an opcode byte, and its length is the length of that byte's format. -/
def Statement (i : Instr) : Prop :=
  i.wellFormed = true → ∃ op rest, encode i = op :: rest ∧ (encode i).length = formatLength (formatOf op)

theorem movBB : Statement .movBB := fun _ => ⟨_, _, rfl, rfl⟩
theorem movBC : Statement .movBC := fun _ => ⟨_, _, rfl, rfl⟩
theorem movBD : Statement .movBD := fun _ => ⟨_, _, rfl, rfl⟩
theorem movBE : Statement .movBE := fun _ => ⟨_, _, rfl, rfl⟩
theorem movBH : Statement .movBH := fun _ => ⟨_, _, rfl, rfl⟩
theorem movBL : Statement .movBL := fun _ => ⟨_, _, rfl, rfl⟩
theorem movBA : Statement .movBA := fun _ => ⟨_, _, rfl, rfl⟩
theorem movCB : Statement .movCB := fun _ => ⟨_, _, rfl, rfl⟩
theorem movCC : Statement .movCC := fun _ => ⟨_, _, rfl, rfl⟩
theorem movCD : Statement .movCD := fun _ => ⟨_, _, rfl, rfl⟩
theorem movCE : Statement .movCE := fun _ => ⟨_, _, rfl, rfl⟩
theorem movCH : Statement .movCH := fun _ => ⟨_, _, rfl, rfl⟩
theorem movCL : Statement .movCL := fun _ => ⟨_, _, rfl, rfl⟩
theorem movCA : Statement .movCA := fun _ => ⟨_, _, rfl, rfl⟩
theorem movDB : Statement .movDB := fun _ => ⟨_, _, rfl, rfl⟩
theorem movDC : Statement .movDC := fun _ => ⟨_, _, rfl, rfl⟩
theorem movDD : Statement .movDD := fun _ => ⟨_, _, rfl, rfl⟩
theorem movDE : Statement .movDE := fun _ => ⟨_, _, rfl, rfl⟩
theorem movDH : Statement .movDH := fun _ => ⟨_, _, rfl, rfl⟩
theorem movDL : Statement .movDL := fun _ => ⟨_, _, rfl, rfl⟩
theorem movDA : Statement .movDA := fun _ => ⟨_, _, rfl, rfl⟩
theorem movEB : Statement .movEB := fun _ => ⟨_, _, rfl, rfl⟩
theorem movEC : Statement .movEC := fun _ => ⟨_, _, rfl, rfl⟩
theorem movED : Statement .movED := fun _ => ⟨_, _, rfl, rfl⟩
theorem movEE : Statement .movEE := fun _ => ⟨_, _, rfl, rfl⟩
theorem movEH : Statement .movEH := fun _ => ⟨_, _, rfl, rfl⟩
theorem movEL : Statement .movEL := fun _ => ⟨_, _, rfl, rfl⟩
theorem movEA : Statement .movEA := fun _ => ⟨_, _, rfl, rfl⟩
theorem movHB : Statement .movHB := fun _ => ⟨_, _, rfl, rfl⟩
theorem movHC : Statement .movHC := fun _ => ⟨_, _, rfl, rfl⟩
theorem movHD : Statement .movHD := fun _ => ⟨_, _, rfl, rfl⟩
theorem movHE : Statement .movHE := fun _ => ⟨_, _, rfl, rfl⟩
theorem movHH : Statement .movHH := fun _ => ⟨_, _, rfl, rfl⟩
theorem movHL : Statement .movHL := fun _ => ⟨_, _, rfl, rfl⟩
theorem movHA : Statement .movHA := fun _ => ⟨_, _, rfl, rfl⟩
theorem movLB : Statement .movLB := fun _ => ⟨_, _, rfl, rfl⟩
theorem movLC : Statement .movLC := fun _ => ⟨_, _, rfl, rfl⟩
theorem movLD : Statement .movLD := fun _ => ⟨_, _, rfl, rfl⟩
theorem movLE : Statement .movLE := fun _ => ⟨_, _, rfl, rfl⟩
theorem movLH : Statement .movLH := fun _ => ⟨_, _, rfl, rfl⟩
theorem movLL : Statement .movLL := fun _ => ⟨_, _, rfl, rfl⟩
theorem movLA : Statement .movLA := fun _ => ⟨_, _, rfl, rfl⟩
theorem movAB : Statement .movAB := fun _ => ⟨_, _, rfl, rfl⟩
theorem movAC : Statement .movAC := fun _ => ⟨_, _, rfl, rfl⟩
theorem movAD : Statement .movAD := fun _ => ⟨_, _, rfl, rfl⟩
theorem movAE : Statement .movAE := fun _ => ⟨_, _, rfl, rfl⟩
theorem movAH : Statement .movAH := fun _ => ⟨_, _, rfl, rfl⟩
theorem movAL : Statement .movAL := fun _ => ⟨_, _, rfl, rfl⟩
theorem movAA : Statement .movAA := fun _ => ⟨_, _, rfl, rfl⟩
theorem movBM : Statement .movBM := fun _ => ⟨_, _, rfl, rfl⟩
theorem movCM : Statement .movCM := fun _ => ⟨_, _, rfl, rfl⟩
theorem movDM : Statement .movDM := fun _ => ⟨_, _, rfl, rfl⟩
theorem movEM : Statement .movEM := fun _ => ⟨_, _, rfl, rfl⟩
theorem movHM : Statement .movHM := fun _ => ⟨_, _, rfl, rfl⟩
theorem movLM : Statement .movLM := fun _ => ⟨_, _, rfl, rfl⟩
theorem movAM : Statement .movAM := fun _ => ⟨_, _, rfl, rfl⟩
theorem movMB : Statement .movMB := fun _ => ⟨_, _, rfl, rfl⟩
theorem movMC : Statement .movMC := fun _ => ⟨_, _, rfl, rfl⟩
theorem movMD : Statement .movMD := fun _ => ⟨_, _, rfl, rfl⟩
theorem movME : Statement .movME := fun _ => ⟨_, _, rfl, rfl⟩
theorem movMH : Statement .movMH := fun _ => ⟨_, _, rfl, rfl⟩
theorem movML : Statement .movML := fun _ => ⟨_, _, rfl, rfl⟩
theorem movMA : Statement .movMA := fun _ => ⟨_, _, rfl, rfl⟩
theorem mviB (d : Byte) : Statement (.mviB d) := fun _ => ⟨_, _, rfl, rfl⟩
theorem mviC (d : Byte) : Statement (.mviC d) := fun _ => ⟨_, _, rfl, rfl⟩
theorem mviD (d : Byte) : Statement (.mviD d) := fun _ => ⟨_, _, rfl, rfl⟩
theorem mviE (d : Byte) : Statement (.mviE d) := fun _ => ⟨_, _, rfl, rfl⟩
theorem mviH (d : Byte) : Statement (.mviH d) := fun _ => ⟨_, _, rfl, rfl⟩
theorem mviL (d : Byte) : Statement (.mviL d) := fun _ => ⟨_, _, rfl, rfl⟩
theorem mviA (d : Byte) : Statement (.mviA d) := fun _ => ⟨_, _, rfl, rfl⟩
theorem mviM (d : Byte) : Statement (.mviM d) := fun _ => ⟨_, _, rfl, rfl⟩
theorem lxiB (w : Word) : Statement (.lxiB w) := fun _ => ⟨_, _, rfl, rfl⟩
theorem lxiD (w : Word) : Statement (.lxiD w) := fun _ => ⟨_, _, rfl, rfl⟩
theorem lxiH (w : Word) : Statement (.lxiH w) := fun _ => ⟨_, _, rfl, rfl⟩
theorem lxiSP (w : Word) : Statement (.lxiSP w) := fun _ => ⟨_, _, rfl, rfl⟩
theorem lda (w : Word) : Statement (.lda w) := fun _ => ⟨_, _, rfl, rfl⟩
theorem sta (w : Word) : Statement (.sta w) := fun _ => ⟨_, _, rfl, rfl⟩
theorem lhld (w : Word) : Statement (.lhld w) := fun _ => ⟨_, _, rfl, rfl⟩
theorem shld (w : Word) : Statement (.shld w) := fun _ => ⟨_, _, rfl, rfl⟩
theorem ldaxB : Statement .ldaxB := fun _ => ⟨_, _, rfl, rfl⟩
theorem ldaxD : Statement .ldaxD := fun _ => ⟨_, _, rfl, rfl⟩
theorem staxB : Statement .staxB := fun _ => ⟨_, _, rfl, rfl⟩
theorem staxD : Statement .staxD := fun _ => ⟨_, _, rfl, rfl⟩
theorem xchg : Statement .xchg := fun _ => ⟨_, _, rfl, rfl⟩
theorem addB : Statement .addB := fun _ => ⟨_, _, rfl, rfl⟩
theorem addC : Statement .addC := fun _ => ⟨_, _, rfl, rfl⟩
theorem addD : Statement .addD := fun _ => ⟨_, _, rfl, rfl⟩
theorem addE : Statement .addE := fun _ => ⟨_, _, rfl, rfl⟩
theorem addH : Statement .addH := fun _ => ⟨_, _, rfl, rfl⟩
theorem addL : Statement .addL := fun _ => ⟨_, _, rfl, rfl⟩
theorem addM : Statement .addM := fun _ => ⟨_, _, rfl, rfl⟩
theorem addA : Statement .addA := fun _ => ⟨_, _, rfl, rfl⟩
theorem adcB : Statement .adcB := fun _ => ⟨_, _, rfl, rfl⟩
theorem adcC : Statement .adcC := fun _ => ⟨_, _, rfl, rfl⟩
theorem adcD : Statement .adcD := fun _ => ⟨_, _, rfl, rfl⟩
theorem adcE : Statement .adcE := fun _ => ⟨_, _, rfl, rfl⟩
theorem adcH : Statement .adcH := fun _ => ⟨_, _, rfl, rfl⟩
theorem adcL : Statement .adcL := fun _ => ⟨_, _, rfl, rfl⟩
theorem adcM : Statement .adcM := fun _ => ⟨_, _, rfl, rfl⟩
theorem adcA : Statement .adcA := fun _ => ⟨_, _, rfl, rfl⟩
theorem subB : Statement .subB := fun _ => ⟨_, _, rfl, rfl⟩
theorem subC : Statement .subC := fun _ => ⟨_, _, rfl, rfl⟩
theorem subD : Statement .subD := fun _ => ⟨_, _, rfl, rfl⟩
theorem subE : Statement .subE := fun _ => ⟨_, _, rfl, rfl⟩
theorem subH : Statement .subH := fun _ => ⟨_, _, rfl, rfl⟩
theorem subL : Statement .subL := fun _ => ⟨_, _, rfl, rfl⟩
theorem subM : Statement .subM := fun _ => ⟨_, _, rfl, rfl⟩
theorem subA : Statement .subA := fun _ => ⟨_, _, rfl, rfl⟩
theorem sbbB : Statement .sbbB := fun _ => ⟨_, _, rfl, rfl⟩
theorem sbbC : Statement .sbbC := fun _ => ⟨_, _, rfl, rfl⟩
theorem sbbD : Statement .sbbD := fun _ => ⟨_, _, rfl, rfl⟩
theorem sbbE : Statement .sbbE := fun _ => ⟨_, _, rfl, rfl⟩
theorem sbbH : Statement .sbbH := fun _ => ⟨_, _, rfl, rfl⟩
theorem sbbL : Statement .sbbL := fun _ => ⟨_, _, rfl, rfl⟩
theorem sbbM : Statement .sbbM := fun _ => ⟨_, _, rfl, rfl⟩
theorem sbbA : Statement .sbbA := fun _ => ⟨_, _, rfl, rfl⟩
theorem adi (d : Byte) : Statement (.adi d) := fun _ => ⟨_, _, rfl, rfl⟩
theorem aci (d : Byte) : Statement (.aci d) := fun _ => ⟨_, _, rfl, rfl⟩
theorem sui (d : Byte) : Statement (.sui d) := fun _ => ⟨_, _, rfl, rfl⟩
theorem sbi (d : Byte) : Statement (.sbi d) := fun _ => ⟨_, _, rfl, rfl⟩
theorem inrB : Statement .inrB := fun _ => ⟨_, _, rfl, rfl⟩
theorem inrC : Statement .inrC := fun _ => ⟨_, _, rfl, rfl⟩
theorem inrD : Statement .inrD := fun _ => ⟨_, _, rfl, rfl⟩
theorem inrE : Statement .inrE := fun _ => ⟨_, _, rfl, rfl⟩
theorem inrH : Statement .inrH := fun _ => ⟨_, _, rfl, rfl⟩
theorem inrL : Statement .inrL := fun _ => ⟨_, _, rfl, rfl⟩
theorem inrA : Statement .inrA := fun _ => ⟨_, _, rfl, rfl⟩
theorem inrM : Statement .inrM := fun _ => ⟨_, _, rfl, rfl⟩
theorem dcrB : Statement .dcrB := fun _ => ⟨_, _, rfl, rfl⟩
theorem dcrC : Statement .dcrC := fun _ => ⟨_, _, rfl, rfl⟩
theorem dcrD : Statement .dcrD := fun _ => ⟨_, _, rfl, rfl⟩
theorem dcrE : Statement .dcrE := fun _ => ⟨_, _, rfl, rfl⟩
theorem dcrH : Statement .dcrH := fun _ => ⟨_, _, rfl, rfl⟩
theorem dcrL : Statement .dcrL := fun _ => ⟨_, _, rfl, rfl⟩
theorem dcrA : Statement .dcrA := fun _ => ⟨_, _, rfl, rfl⟩
theorem dcrM : Statement .dcrM := fun _ => ⟨_, _, rfl, rfl⟩
theorem inxB : Statement .inxB := fun _ => ⟨_, _, rfl, rfl⟩
theorem inxD : Statement .inxD := fun _ => ⟨_, _, rfl, rfl⟩
theorem inxH : Statement .inxH := fun _ => ⟨_, _, rfl, rfl⟩
theorem inxSP : Statement .inxSP := fun _ => ⟨_, _, rfl, rfl⟩
theorem dcxB : Statement .dcxB := fun _ => ⟨_, _, rfl, rfl⟩
theorem dcxD : Statement .dcxD := fun _ => ⟨_, _, rfl, rfl⟩
theorem dcxH : Statement .dcxH := fun _ => ⟨_, _, rfl, rfl⟩
theorem dcxSP : Statement .dcxSP := fun _ => ⟨_, _, rfl, rfl⟩
theorem dadB : Statement .dadB := fun _ => ⟨_, _, rfl, rfl⟩
theorem dadD : Statement .dadD := fun _ => ⟨_, _, rfl, rfl⟩
theorem dadH : Statement .dadH := fun _ => ⟨_, _, rfl, rfl⟩
theorem dadSP : Statement .dadSP := fun _ => ⟨_, _, rfl, rfl⟩
theorem daa : Statement .daa := fun _ => ⟨_, _, rfl, rfl⟩
theorem anaB : Statement .anaB := fun _ => ⟨_, _, rfl, rfl⟩
theorem anaC : Statement .anaC := fun _ => ⟨_, _, rfl, rfl⟩
theorem anaD : Statement .anaD := fun _ => ⟨_, _, rfl, rfl⟩
theorem anaE : Statement .anaE := fun _ => ⟨_, _, rfl, rfl⟩
theorem anaH : Statement .anaH := fun _ => ⟨_, _, rfl, rfl⟩
theorem anaL : Statement .anaL := fun _ => ⟨_, _, rfl, rfl⟩
theorem anaM : Statement .anaM := fun _ => ⟨_, _, rfl, rfl⟩
theorem anaA : Statement .anaA := fun _ => ⟨_, _, rfl, rfl⟩
theorem xraB : Statement .xraB := fun _ => ⟨_, _, rfl, rfl⟩
theorem xraC : Statement .xraC := fun _ => ⟨_, _, rfl, rfl⟩
theorem xraD : Statement .xraD := fun _ => ⟨_, _, rfl, rfl⟩
theorem xraE : Statement .xraE := fun _ => ⟨_, _, rfl, rfl⟩
theorem xraH : Statement .xraH := fun _ => ⟨_, _, rfl, rfl⟩
theorem xraL : Statement .xraL := fun _ => ⟨_, _, rfl, rfl⟩
theorem xraM : Statement .xraM := fun _ => ⟨_, _, rfl, rfl⟩
theorem xraA : Statement .xraA := fun _ => ⟨_, _, rfl, rfl⟩
theorem oraB : Statement .oraB := fun _ => ⟨_, _, rfl, rfl⟩
theorem oraC : Statement .oraC := fun _ => ⟨_, _, rfl, rfl⟩
theorem oraD : Statement .oraD := fun _ => ⟨_, _, rfl, rfl⟩
theorem oraE : Statement .oraE := fun _ => ⟨_, _, rfl, rfl⟩
theorem oraH : Statement .oraH := fun _ => ⟨_, _, rfl, rfl⟩
theorem oraL : Statement .oraL := fun _ => ⟨_, _, rfl, rfl⟩
theorem oraM : Statement .oraM := fun _ => ⟨_, _, rfl, rfl⟩
theorem oraA : Statement .oraA := fun _ => ⟨_, _, rfl, rfl⟩
theorem cmpB : Statement .cmpB := fun _ => ⟨_, _, rfl, rfl⟩
theorem cmpC : Statement .cmpC := fun _ => ⟨_, _, rfl, rfl⟩
theorem cmpD : Statement .cmpD := fun _ => ⟨_, _, rfl, rfl⟩
theorem cmpE : Statement .cmpE := fun _ => ⟨_, _, rfl, rfl⟩
theorem cmpH : Statement .cmpH := fun _ => ⟨_, _, rfl, rfl⟩
theorem cmpL : Statement .cmpL := fun _ => ⟨_, _, rfl, rfl⟩
theorem cmpM : Statement .cmpM := fun _ => ⟨_, _, rfl, rfl⟩
theorem cmpA : Statement .cmpA := fun _ => ⟨_, _, rfl, rfl⟩
theorem ani (d : Byte) : Statement (.ani d) := fun _ => ⟨_, _, rfl, rfl⟩
theorem xri (d : Byte) : Statement (.xri d) := fun _ => ⟨_, _, rfl, rfl⟩
theorem ori (d : Byte) : Statement (.ori d) := fun _ => ⟨_, _, rfl, rfl⟩
theorem cpi (d : Byte) : Statement (.cpi d) := fun _ => ⟨_, _, rfl, rfl⟩
theorem rlc : Statement .rlc := fun _ => ⟨_, _, rfl, rfl⟩
theorem rrc : Statement .rrc := fun _ => ⟨_, _, rfl, rfl⟩
theorem ral : Statement .ral := fun _ => ⟨_, _, rfl, rfl⟩
theorem rar : Statement .rar := fun _ => ⟨_, _, rfl, rfl⟩
theorem cma : Statement .cma := fun _ => ⟨_, _, rfl, rfl⟩
theorem stc : Statement .stc := fun _ => ⟨_, _, rfl, rfl⟩
theorem cmc : Statement .cmc := fun _ => ⟨_, _, rfl, rfl⟩
theorem jmp (w : Word) : Statement (.jmp w) := fun _ => ⟨_, _, rfl, rfl⟩
theorem jnz (w : Word) : Statement (.jnz w) := fun _ => ⟨_, _, rfl, rfl⟩
theorem jz (w : Word) : Statement (.jz w) := fun _ => ⟨_, _, rfl, rfl⟩
theorem jnc (w : Word) : Statement (.jnc w) := fun _ => ⟨_, _, rfl, rfl⟩
theorem jc (w : Word) : Statement (.jc w) := fun _ => ⟨_, _, rfl, rfl⟩
theorem jpo (w : Word) : Statement (.jpo w) := fun _ => ⟨_, _, rfl, rfl⟩
theorem jpe (w : Word) : Statement (.jpe w) := fun _ => ⟨_, _, rfl, rfl⟩
theorem jp (w : Word) : Statement (.jp w) := fun _ => ⟨_, _, rfl, rfl⟩
theorem jm (w : Word) : Statement (.jm w) := fun _ => ⟨_, _, rfl, rfl⟩
theorem call (w : Word) : Statement (.call w) := fun _ => ⟨_, _, rfl, rfl⟩
theorem cnz (w : Word) : Statement (.cnz w) := fun _ => ⟨_, _, rfl, rfl⟩
theorem cz (w : Word) : Statement (.cz w) := fun _ => ⟨_, _, rfl, rfl⟩
theorem cnc (w : Word) : Statement (.cnc w) := fun _ => ⟨_, _, rfl, rfl⟩
theorem cc (w : Word) : Statement (.cc w) := fun _ => ⟨_, _, rfl, rfl⟩
theorem cpo (w : Word) : Statement (.cpo w) := fun _ => ⟨_, _, rfl, rfl⟩
theorem cpe (w : Word) : Statement (.cpe w) := fun _ => ⟨_, _, rfl, rfl⟩
theorem cp (w : Word) : Statement (.cp w) := fun _ => ⟨_, _, rfl, rfl⟩
theorem cm (w : Word) : Statement (.cm w) := fun _ => ⟨_, _, rfl, rfl⟩
theorem ret : Statement .ret := fun _ => ⟨_, _, rfl, rfl⟩
theorem rnz : Statement .rnz := fun _ => ⟨_, _, rfl, rfl⟩
theorem rz : Statement .rz := fun _ => ⟨_, _, rfl, rfl⟩
theorem rnc : Statement .rnc := fun _ => ⟨_, _, rfl, rfl⟩
theorem rc : Statement .rc := fun _ => ⟨_, _, rfl, rfl⟩
theorem rpo : Statement .rpo := fun _ => ⟨_, _, rfl, rfl⟩
theorem rpe : Statement .rpe := fun _ => ⟨_, _, rfl, rfl⟩
theorem rp : Statement .rp := fun _ => ⟨_, _, rfl, rfl⟩
theorem rm : Statement .rm := fun _ => ⟨_, _, rfl, rfl⟩
theorem rst0 : Statement .rst0 := fun _ => ⟨_, _, rfl, rfl⟩
theorem rst1 : Statement .rst1 := fun _ => ⟨_, _, rfl, rfl⟩
theorem rst2 : Statement .rst2 := fun _ => ⟨_, _, rfl, rfl⟩
theorem rst3 : Statement .rst3 := fun _ => ⟨_, _, rfl, rfl⟩
theorem rst4 : Statement .rst4 := fun _ => ⟨_, _, rfl, rfl⟩
theorem rst5 : Statement .rst5 := fun _ => ⟨_, _, rfl, rfl⟩
theorem rst6 : Statement .rst6 := fun _ => ⟨_, _, rfl, rfl⟩
theorem rst7 : Statement .rst7 := fun _ => ⟨_, _, rfl, rfl⟩
theorem pchl : Statement .pchl := fun _ => ⟨_, _, rfl, rfl⟩
theorem jmpAlias (w : Word) : Statement (.jmpAlias w) := fun _ => ⟨_, _, rfl, rfl⟩
theorem retAlias : Statement .retAlias := fun _ => ⟨_, _, rfl, rfl⟩
theorem callAlias (pp : BitVec 2) (w : Word) : Statement (.callAlias pp w) := fun _ => ⟨_, _, rfl, (by decide : ∀ pp : BitVec 2, 3 = formatLength (formatOf (0b11#2 ++ pp ++ 0b1101#4))) pp⟩
theorem inPort (d : Byte) : Statement (.inPort d) := fun _ => ⟨_, _, rfl, rfl⟩
theorem outPort (d : Byte) : Statement (.outPort d) := fun _ => ⟨_, _, rfl, rfl⟩
theorem nopAlias (nnn : BitVec 3) : Statement (.nopAlias nnn) := fun _ => ⟨_, _, rfl, (by decide : ∀ nnn : BitVec 3, 1 = formatLength (formatOf (0b00#2 ++ nnn ++ 0b000#3))) nnn⟩
theorem pushB : Statement .pushB := fun _ => ⟨_, _, rfl, rfl⟩
theorem pushD : Statement .pushD := fun _ => ⟨_, _, rfl, rfl⟩
theorem pushH : Statement .pushH := fun _ => ⟨_, _, rfl, rfl⟩
theorem pushPSW : Statement .pushPSW := fun _ => ⟨_, _, rfl, rfl⟩
theorem popB : Statement .popB := fun _ => ⟨_, _, rfl, rfl⟩
theorem popD : Statement .popD := fun _ => ⟨_, _, rfl, rfl⟩
theorem popH : Statement .popH := fun _ => ⟨_, _, rfl, rfl⟩
theorem popPSW : Statement .popPSW := fun _ => ⟨_, _, rfl, rfl⟩
theorem xthl : Statement .xthl := fun _ => ⟨_, _, rfl, rfl⟩
theorem sphl : Statement .sphl := fun _ => ⟨_, _, rfl, rfl⟩
theorem ei : Statement .ei := fun _ => ⟨_, _, rfl, rfl⟩
theorem di : Statement .di := fun _ => ⟨_, _, rfl, rfl⟩
theorem hlt : Statement .hlt := fun _ => ⟨_, _, rfl, rfl⟩
theorem nop : Statement .nop := fun _ => ⟨_, _, rfl, rfl⟩

end Sys2Proof.Laws.EncodedLength
end

