-- ==== Sys2Proof/Laws/Steps.lean ====
section
/-! SUPPORT. What fetching operands, performing an opcode and a whole step do, each as one equation over `answer`. -/

namespace Sys2Proof.Machine

/-! ### Answers -/

theorem answer_of_allowed_one {s t : State} {a : Word} {dir : Direction} (h : s.allows a dir = true) :
    answer (s.firstDenied [(a, dir)]) t = .next t := answer_of_allowed (by simpa using h)

theorem answer_of_denied_one {s t : State} {a : Word} {dir : Direction} (h : s.allows a dir = false) :
    answer (s.firstDenied [(a, dir)]) t = .fault (.accessViolation a dir) := by
  rw [State.firstDenied_cons, if_neg (by simp [h]), answer_some]

theorem answer_of_allowed_two {s t : State} {a b : Word} {da db : Direction} (ha : s.allows a da = true)
    (hb : s.allows b db = true) : answer (s.firstDenied [(a, da), (b, db)]) t = .next t :=
  answer_of_allowed (by simp [ha, hb])

/-- An answer faults at its first denied access. -/
theorem faultsAtFirstDenied_of_eq {s t : State} {xs : List (Word × Direction)} {r : Result}
    (h : r = answer (s.firstDenied xs) t) : FaultsAtFirstDenied s xs r := by
  intro a dir e
  rw [h, e, answer_some]

/-! ### Fetching -/

theorem State.fetchReads_zero (s : State) : s.fetchReads 0 = [] := rfl
theorem State.fetchReads_one (s : State) : s.fetchReads 1 = [(s.pc, .read)] := by simp [State.fetchReads, List.range_succ]
theorem State.fetchReads_two (s : State) : s.fetchReads 2 = [(s.pc, .read), (s.pc + 1, .read)] := by
  simp [State.fetchReads, List.range_succ]
theorem State.fetchReads_three (s : State) :
    s.fetchReads 3 = [(s.pc, .read), (s.pc + 1, .read), (s.pc + 2, .read)] := by
  simp [State.fetchReads, List.range_succ]

theorem State.bytesAtPc_one (s : State) : s.bytesAtPc 1 = [s.byteAt s.pc] := by simp [State.bytesAtPc, List.range_succ]
theorem State.bytesAtPc_two (s : State) : s.bytesAtPc 2 = [s.byteAt s.pc, s.byteAt (s.pc + 1)] := by
  simp [State.bytesAtPc, List.range_succ]
theorem State.bytesAtPc_three (s : State) :
    s.bytesAtPc 3 = [s.byteAt s.pc, s.byteAt (s.pc + 1), s.byteAt (s.pc + 2)] := by
  simp [State.bytesAtPc, List.range_succ]
@[simp] theorem State.bytesAtPc_length (s : State) (n : Nat) : (s.bytesAtPc n).length = n := by simp [State.bytesAtPc]

theorem fetch16_eq (s : State) :
    fetch16 s = accessAnswer (s.firstDenied [(s.pc, .read), (s.pc + 1, .read)]) (s.wordAt s.pc) (s.afterFetch 2) := by
  rw [fetch16, fetch8_eq]
  refine accessAnswer_andThen (ys := [(s.pc + 1, .read)]) rfl ?_
  rw [fetch8_eq]
  exact accessAnswer_andThen (ys := []) rfl rfl

theorem executeOpcode_f1 {op : Byte} (h : formatOf op = .f1) (s : State) :
    executeOpcode op s = exec (instrOf op 0#8 0#16) s := by simp [executeOpcode, fetchOperands, h]

theorem executeOpcode_f2 {op : Byte} (h : formatOf op = .f2) (s : State) :
    executeOpcode op s = (fetch8 s).run fun d t => exec (instrOf op d 0#16) t := by
  simp only [executeOpcode, fetchOperands, h]
  cases fetch8 s <;> rfl

theorem executeOpcode_f3 {op : Byte} (h : formatOf op = .f3) (s : State) :
    executeOpcode op s = (fetch16 s).run fun w t => exec (instrOf op 0#8 w) t := by
  simp only [executeOpcode, fetchOperands, h]
  cases fetch16 s <;> rfl

/-- A byte with format F2 performs what the opcode map names. -/
theorem performsF2_of {op : Byte} {i : Byte → Instr} (h : formatOf op = .f2) (hi : ∀ d, instrOf op d 0#16 = i d) :
    PerformsF2 op i := fun s => by rw [executeOpcode_f2 h]; simp only [hi]

/-- A byte with format F3 performs what the opcode map names. -/
theorem performsF3_of {op : Byte} {i : Word → Instr} (h : formatOf op = .f3) (hi : ∀ w, instrOf op 0#8 w = i w) :
    PerformsF3 op i := fun s => by rw [executeOpcode_f3 h]; simp only [hi]

/-- A byte with format F1 performs what the opcode map names. -/
theorem performsF1_of {op : Byte} {i : Instr} (h : formatOf op = .f1) (hi : instrOf op 0#8 0#16 = i) : PerformsF1 op i :=
  fun s => by rw [executeOpcode_f1 h, hi]

/-- The number of operand bytes of an opcode. -/
def operandCount (op : Byte) : Nat := formatLength (formatOf op) - 1

/-- The instruction an opcode byte and the bytes at `pc` make. -/
def State.instrAt (s : State) (op : Byte) : Instr :=
  match formatOf op with
  | .f1 => instrOf op 0#8 0#16
  | .f2 => instrOf op (s.byteAt s.pc) 0#16
  | .f3 => instrOf op 0#8 (s.wordAt s.pc)

theorem fetchOperands_eq (op : Byte) (s : State) :
    fetchOperands op s = accessAnswer (s.firstDenied (s.fetchReads (operandCount op))) (s.instrAt op)
      (s.afterFetch (operandCount op)) := by
  unfold fetchOperands operandCount State.instrAt
  cases formatOf op with
  | f1 => rfl
  | f2 =>
    simp only [formatLength, fetch8_eq, Nat.add_one_sub_one, State.fetchReads_one]
    exact accessAnswer_andThen (ys := []) rfl rfl
  | f3 =>
    simp only [formatLength, fetch16_eq, Nat.reduceSub, State.fetchReads_two]
    exact accessAnswer_andThen (ys := []) rfl rfl

/-- `Execute(op)` in one equation: the operand reads, then the instruction. -/
theorem executeOpcode_eq (op : Byte) (s : State) :
    executeOpcode op s = match s.firstDenied (s.fetchReads (operandCount op)) with
      | none => exec (s.instrAt op) (s.afterFetch (operandCount op))
      | some x => .fault (.accessViolation x.1 x.2) := by
  rw [executeOpcode, fetchOperands_eq]
  cases s.firstDenied (s.fetchReads (operandCount op)) <;> rfl

/-- An opcode with exactly the `n` bytes at `pc` after it decodes to the instruction that `Execute` finds there. -/
theorem decode_bytesAtPc {s : State} {op : Byte} {n : Nat} {i : Instr} (h : decode (op :: s.bytesAtPc n) = .ok (i, [])) :
    n = operandCount op ∧ i = s.instrAt op := by
  have hl := s.bytesAtPc_length n
  unfold operandCount State.instrAt
  cases hf : formatOf op with
  | f1 =>
    simp only [decode, hf, Except.ok.injEq, Prod.mk.injEq] at h
    rw [h.2] at hl
    exact ⟨hl.symm, h.1.symm⟩
  | f2 =>
    match hb : s.bytesAtPc n with
    | [] => rw [hb] at h; simp [decode, hf] at h
    | d :: rest =>
      rw [hb] at h hl
      simp only [decode, hf, Except.ok.injEq, Prod.mk.injEq] at h
      obtain ⟨h1, rfl⟩ := h
      obtain rfl : n = 1 := by simpa using hl.symm
      rw [State.bytesAtPc_one, List.cons.injEq] at hb
      exact ⟨rfl, by rw [← h1, hb.1]⟩
  | f3 =>
    match hb : s.bytesAtPc n with
    | [] => rw [hb] at h; simp [decode, hf] at h
    | [_] => rw [hb] at h; simp [decode, hf] at h
    | lo :: hi :: rest =>
      rw [hb] at h hl
      simp only [decode, hf, Except.ok.injEq, Prod.mk.injEq] at h
      obtain ⟨h1, rfl⟩ := h
      obtain rfl : n = 2 := by simpa using hl.symm
      rw [State.bytesAtPc_two, List.cons.injEq, List.cons.injEq] at hb
      exact ⟨rfl, by rw [← h1, hb.1.symm, hb.2.1.symm]; rfl⟩

theorem Word.add_succ (a : Word) (k : Nat) : a + BitVec.ofNat 16 (k + 1) = a + 1 + BitVec.ofNat 16 k := by
  apply BitVec.eq_of_toNat_eq
  simp only [BitVec.toNat_add, BitVec.toNat_ofNat, show (1 : Word).toNat = 1 from rfl]
  omega

/-- The first byte at `pc`, then the bytes after it. -/
theorem State.bytesAtPc_succ (s : State) (n : Nat) : s.bytesAtPc (n + 1) = s.byteAt s.pc :: (s.afterFetch 1).bytesAtPc n := by
  have e (k : Nat) : s.pc + BitVec.ofNat 16 (k + 1) = s.pc + 1 + BitVec.ofNat 16 k := Word.add_succ s.pc k
  simp only [State.bytesAtPc, List.range_succ_eq_map, List.map_cons, List.map_map]
  refine congrArg₂ _ (by simp) (List.map_congr_left fun k _ => ?_)
  simp only [Function.comp, Nat.succ_eq_add_one, e]
  rfl

/-- The read of the first byte, then the reads of the others. -/
theorem State.fetchReads_succ (s : State) (n : Nat) :
    s.fetchReads (n + 1) = (s.pc, .read) :: (s.afterFetch 1).fetchReads n := by
  have e (k : Nat) : s.pc + BitVec.ofNat 16 (k + 1) = s.pc + 1 + BitVec.ofNat 16 k := Word.add_succ s.pc k
  simp only [State.fetchReads, List.range_succ_eq_map, List.map_cons, List.map_map]
  refine congrArg₂ _ (by simp) (List.map_congr_left fun k _ => ?_)
  simp only [Function.comp, Nat.succ_eq_add_one, e]
  rfl

/-- The two halves of a step. -/
theorem step_fetched {s : State} (h : s.intPending = false) : step s = fetchExecute s := by simp [step, h]

theorem step_injected {s : State} (h : s.intPending = true) : step s = serviceInterrupt s := by simp [step, h]

/-- A fetched step: the opcode read, then `Execute(op)`. -/
theorem fetchExecute_eq (s : State) :
    fetchExecute s = if s.allows s.pc .read = true then
      executeOpcode (s.byteAt s.pc) ((s.afterRead s.pc).setPc (s.pc + 1)) else .fault (.accessViolation s.pc .read) := by
  rw [fetchExecute, fetch8_eq, State.firstDenied_cons]
  split <;> rfl

/-- An injected step: the vector above 0xFF faults, else the opcode is performed and the latch cleared. -/
theorem serviceInterrupt_eq (s : State) :
    serviceInterrupt s = if 0x00FF#16 < s.intVector then .fault (.illegalDecode s.intVector)
      else drained (executeOpcode (lowByte s.intVector) s) := by
  rw [serviceInterrupt, latchedOpcode]
  split <;> rfl

/-- Inversion of a step that answers a next state: the instruction of the bytes at `pc`, performed past them, or the
latched opcode's, performed past its operand bytes with the latch cleared after; in both every access was allowed. -/
theorem step_cases {s t : State} (h : step s = .next t) :
    (s.intPending = false ∧ ∃ n i, n = operandCount (s.byteAt s.pc) ∧
      i = (s.afterFetch 1).instrAt (s.byteAt s.pc) ∧ s.allows s.pc .read = true ∧
      s.firstDenied ((s.afterFetch 1).fetchReads n) = none ∧
      s.firstDenied (dataAccesses i (s.afterFetch (n + 1))) = none ∧ t = nextState i (s.afterFetch (n + 1))) ∨
    (s.intPending = true ∧ ∃ n i, n = operandCount (lowByte s.intVector) ∧ i = s.instrAt (lowByte s.intVector) ∧
      s.intVector.toNat ≤ 0xFF ∧ s.firstDenied (s.fetchReads n) = none ∧
      s.firstDenied (dataAccesses i (s.afterFetch n)) = none ∧ t = (nextState i (s.afterFetch n)).drainLatch) := by
  have hv : ∀ (n : Nat) (u : State), (u.afterFetch n).variant = u.variant := by
    intro n
    induction n with
    | zero => intro u; rfl
    | succ n ih => intro u; exact ih _
  cases hp : s.intPending with
  | false =>
    left
    rw [step_fetched hp, fetchExecute_eq] at h
    split at h
    · rename_i ha
      change executeOpcode (s.byteAt s.pc) (s.afterFetch 1) = _ at h
      rw [executeOpcode_eq] at h
      split at h
      · rename_i hr
        rw [exec_eq, answer_eq_next] at h
        refine ⟨rfl, _, _, rfl, rfl, ha, ?_, ?_, h.2.symm⟩
        · rwa [State.firstDenied_congr (hv 1 s)] at hr
        · have := h.1
          rwa [State.firstDenied_congr ((hv _ _).trans (hv 1 s))] at this
      · cases h
    · cases h
  | true =>
    right
    rw [step_injected hp, serviceInterrupt_eq] at h
    split at h
    · cases h
    · rename_i hle
      rw [executeOpcode_eq] at h
      split at h
      · rename_i hr
        rw [exec_eq] at h
        cases hd : (s.afterFetch (operandCount (lowByte s.intVector))).firstDenied
            (dataAccesses (s.instrAt (lowByte s.intVector)) (s.afterFetch (operandCount (lowByte s.intVector)))) with
        | none =>
          rw [hd, answer_none] at h
          refine ⟨rfl, _, _, rfl, rfl, by simpa [BitVec.lt_def] using hle, hr, ?_, (Host.Outcome.next.inj h).symm⟩
          rwa [State.firstDenied_congr (hv _ _)] at hd
        | some x => rw [hd] at h; cases h
      · cases h

end Sys2Proof.Machine
end

