-- ==== Sys2Proof/Tests/Slice0.lean ====
section
/-! SUPPORT. The model's own tests. Expected values come from the spec: the opcode map of 30_encoding.md R112, the tables
of 41_arithmetic.md R172, R173, and the vectors of 95_test_vectors.md, named in each test's docstring. Then one witness
for each obligation with hypotheses: a concrete state and operands that meet them, clause by clause. -/

namespace Sys2Proof.Tests

open Sys2Proof.Machine

/-! ### WellFormed refuses an ill-formed term for each check (30_encoding.md R102) -/

theorem test_wellFormed_refuses_nop_alias_zero : (Instr.nopAlias 0#3).wellFormed = false := by decide
theorem test_wellFormed_refuses_call_alias_zero : (Instr.callAlias 0#2 0x0200#16).wellFormed = false := by decide
theorem test_wellFormed_accepts_the_aliases :
    (∀ nnn : BitVec 3, nnn ≠ 0#3 → (Instr.nopAlias nnn).wellFormed = true) ∧
    (∀ pp : BitVec 2, pp ≠ 0#2 → (Instr.callAlias pp 0x0200#16).wellFormed = true) := by decide

/-! ### Decoding, each row of R112: the opcode byte, then the operand bytes 0x34 0x12 -/

/-- What the decoder reads from an opcode byte followed by 0x34 0x12. -/
def read (op : Nat) : Option Instr :=
  match decode [BitVec.ofNat 8 op, 0x34#8, 0x12#8] with
  | .ok (i, _) => some i
  | .error _ => none

/-- The sixteen opcodes from `op` on. -/
def row (op : Nat) : List (Option Instr) := (List.range 16).map fun k => read (op + k)

theorem test_decode_row_0x : row 0x00 =
    [some .nop, some (.lxiB 0x1234#16), some .staxB, some .inxB, some .inrB, some .dcrB, some (.mviB 0x34#8), some
    .rlc, some (.nopAlias 1#3), some .dadB, some .ldaxB, some .dcxB, some .inrC, some .dcrC, some (.mviC 0x34#8),
    some .rrc] := by decide
theorem test_decode_row_1x : row 0x10 =
    [some (.nopAlias 2#3), some (.lxiD 0x1234#16), some .staxD, some .inxD, some .inrD, some .dcrD, some (.mviD
    0x34#8), some .ral, some (.nopAlias 3#3), some .dadD, some .ldaxD, some .dcxD, some .inrE, some .dcrE, some
    (.mviE 0x34#8), some .rar] := by decide
theorem test_decode_row_2x : row 0x20 =
    [some (.nopAlias 4#3), some (.lxiH 0x1234#16), some (.shld 0x1234#16), some .inxH, some .inrH, some .dcrH, some
    (.mviH 0x34#8), some .daa, some (.nopAlias 5#3), some .dadH, some (.lhld 0x1234#16), some .dcxH, some .inrL,
    some .dcrL, some (.mviL 0x34#8), some .cma] := by decide
theorem test_decode_row_3x : row 0x30 =
    [some (.nopAlias 6#3), some (.lxiSP 0x1234#16), some (.sta 0x1234#16), some .inxSP, some .inrM, some .dcrM, some
    (.mviM 0x34#8), some .stc, some (.nopAlias 7#3), some .dadSP, some (.lda 0x1234#16), some .dcxSP, some .inrA,
    some .dcrA, some (.mviA 0x34#8), some .cmc] := by decide
theorem test_decode_row_4x : row 0x40 =
    [some .movBB, some .movBC, some .movBD, some .movBE, some .movBH, some .movBL, some .movBM, some .movBA, some
    .movCB, some .movCC, some .movCD, some .movCE, some .movCH, some .movCL, some .movCM, some .movCA] := by decide
theorem test_decode_row_5x : row 0x50 =
    [some .movDB, some .movDC, some .movDD, some .movDE, some .movDH, some .movDL, some .movDM, some .movDA, some
    .movEB, some .movEC, some .movED, some .movEE, some .movEH, some .movEL, some .movEM, some .movEA] := by decide
theorem test_decode_row_6x : row 0x60 =
    [some .movHB, some .movHC, some .movHD, some .movHE, some .movHH, some .movHL, some .movHM, some .movHA, some
    .movLB, some .movLC, some .movLD, some .movLE, some .movLH, some .movLL, some .movLM, some .movLA] := by decide
theorem test_decode_row_7x : row 0x70 =
    [some .movMB, some .movMC, some .movMD, some .movME, some .movMH, some .movML, some .hlt, some .movMA, some
    .movAB, some .movAC, some .movAD, some .movAE, some .movAH, some .movAL, some .movAM, some .movAA] := by decide
theorem test_decode_row_8x : row 0x80 =
    [some .addB, some .addC, some .addD, some .addE, some .addH, some .addL, some .addM, some .addA, some .adcB,
    some .adcC, some .adcD, some .adcE, some .adcH, some .adcL, some .adcM, some .adcA] := by decide
theorem test_decode_row_9x : row 0x90 =
    [some .subB, some .subC, some .subD, some .subE, some .subH, some .subL, some .subM, some .subA, some .sbbB,
    some .sbbC, some .sbbD, some .sbbE, some .sbbH, some .sbbL, some .sbbM, some .sbbA] := by decide
theorem test_decode_row_Ax : row 0xA0 =
    [some .anaB, some .anaC, some .anaD, some .anaE, some .anaH, some .anaL, some .anaM, some .anaA, some .xraB,
    some .xraC, some .xraD, some .xraE, some .xraH, some .xraL, some .xraM, some .xraA] := by decide
theorem test_decode_row_Bx : row 0xB0 =
    [some .oraB, some .oraC, some .oraD, some .oraE, some .oraH, some .oraL, some .oraM, some .oraA, some .cmpB,
    some .cmpC, some .cmpD, some .cmpE, some .cmpH, some .cmpL, some .cmpM, some .cmpA] := by decide
theorem test_decode_row_Cx : row 0xC0 =
    [some .rnz, some .popB, some (.jnz 0x1234#16), some (.jmp 0x1234#16), some (.cnz 0x1234#16), some .pushB, some
    (.adi 0x34#8), some .rst0, some .rz, some .ret, some (.jz 0x1234#16), some (.jmpAlias 0x1234#16), some (.cz
    0x1234#16), some (.call 0x1234#16), some (.aci 0x34#8), some .rst1] := by decide
theorem test_decode_row_Dx : row 0xD0 =
    [some .rnc, some .popD, some (.jnc 0x1234#16), some (.outPort 0x34#8), some (.cnc 0x1234#16), some .pushD, some
    (.sui 0x34#8), some .rst2, some .rc, some .retAlias, some (.jc 0x1234#16), some (.inPort 0x34#8), some (.cc
    0x1234#16), some (.callAlias 1#2 0x1234#16), some (.sbi 0x34#8), some .rst3] := by decide
theorem test_decode_row_Ex : row 0xE0 =
    [some .rpo, some .popH, some (.jpo 0x1234#16), some .xthl, some (.cpo 0x1234#16), some .pushH, some (.ani
    0x34#8), some .rst4, some .rpe, some .pchl, some (.jpe 0x1234#16), some .xchg, some (.cpe 0x1234#16), some
    (.callAlias 2#2 0x1234#16), some (.xri 0x34#8), some .rst5] := by decide
theorem test_decode_row_Fx : row 0xF0 =
    [some .rp, some .popPSW, some (.jp 0x1234#16), some .di, some (.cp 0x1234#16), some .pushPSW, some (.ori
    0x34#8), some .rst6, some .rm, some .sphl, some (.jm 0x1234#16), some .ei, some (.cm 0x1234#16), some
    (.callAlias 3#2 0x1234#16), some (.cpi 0x34#8), some .rst7] := by decide

theorem test_decode_rejects_by_name :
    decode [] = .error .noOpcode ∧ decode [0x3E#8] = .error .missingOperand ∧
    decode [0xC3#8, 0x00#8] = .error .missingOperand := ⟨rfl, rfl, rfl⟩

/-- The opcode-table words: bit 0 is the least significant bit of the first byte. -/
theorem test_decodeTableWord :
    decodeTableWord 8 0x3C = some .inrA ∧ decodeTableWord 24 0x0200CD = some (.call 0x0200#16) ∧
    decodeTableWord 8 0xC3 = some (.jmp 0x0000#16) ∧ decodeTableWord 16 0x423E = some (.mviA 0x42#8) := by decide

/-- `withFetchWord` places the word where the next step fetches it: the step runs it. -/
theorem test_withFetchWord_runs_the_word :
    step (State.reset.withFetchWord 24 0x123421) = exec (.lxiH 0x1234#16) ((State.reset.withFetchWord 24 0x123421).afterFetch 3) ∧
    step (State.reset.withFetchWord 8 0x3C) = exec .inrA ((State.reset.withFetchWord 8 0x3C).afterFetch 1) := ⟨rfl, rfl⟩

/-! ### Tables: parity of R173 (by rows, 1 = true), the auxiliary-carry tables of R172 -/


/-- The parities of the 64 bytes from `n` on. -/
def parities (n : Nat) : List Nat := (List.range 64).map fun k => bit (parity (BitVec.ofNat 8 (n + k)))

theorem test_parity_table_0x_to_3x : parities 0 =
    [1, 0, 0, 1, 0, 1, 1, 0, 0, 1, 1, 0, 1, 0, 0, 1,
     0, 1, 1, 0, 1, 0, 0, 1, 1, 0, 0, 1, 0, 1, 1, 0,
     0, 1, 1, 0, 1, 0, 0, 1, 1, 0, 0, 1, 0, 1, 1, 0,
     1, 0, 0, 1, 0, 1, 1, 0, 0, 1, 1, 0, 1, 0, 0, 1] := by decide
theorem test_parity_table_4x_to_7x : parities 64 =
    [0, 1, 1, 0, 1, 0, 0, 1, 1, 0, 0, 1, 0, 1, 1, 0,
     1, 0, 0, 1, 0, 1, 1, 0, 0, 1, 1, 0, 1, 0, 0, 1,
     1, 0, 0, 1, 0, 1, 1, 0, 0, 1, 1, 0, 1, 0, 0, 1,
     0, 1, 1, 0, 1, 0, 0, 1, 1, 0, 0, 1, 0, 1, 1, 0] := by decide
theorem test_parity_table_8x_to_Bx : parities 128 =
    [0, 1, 1, 0, 1, 0, 0, 1, 1, 0, 0, 1, 0, 1, 1, 0,
     1, 0, 0, 1, 0, 1, 1, 0, 0, 1, 1, 0, 1, 0, 0, 1,
     1, 0, 0, 1, 0, 1, 1, 0, 0, 1, 1, 0, 1, 0, 0, 1,
     0, 1, 1, 0, 1, 0, 0, 1, 1, 0, 0, 1, 0, 1, 1, 0] := by decide
theorem test_parity_table_Cx_to_Fx : parities 192 =
    [1, 0, 0, 1, 0, 1, 1, 0, 0, 1, 1, 0, 1, 0, 0, 1,
     0, 1, 1, 0, 1, 0, 0, 1, 1, 0, 0, 1, 0, 1, 1, 0,
     0, 1, 1, 0, 1, 0, 0, 1, 1, 0, 0, 1, 0, 1, 1, 0,
     1, 0, 0, 1, 0, 1, 1, 0, 0, 1, 1, 0, 1, 0, 0, 1] := by decide

theorem test_auxiliary_carry_tables :
    ((List.range 8).map fun k => addAc (BitVec.ofNat 3 k)) = [false, false, true, false, true, false, true, true] ∧
    ((List.range 8).map fun k => subBorrow (BitVec.ofNat 3 k)) = [false, true, true, true, false, false, false, true] := by
  decide

/-! ### One step each, from 95_test_vectors.md -/

/-- A byte in memory. -/
def put (s : State) (a : Nat) (v : Byte) : State := { s with mem := s.mem.write a v }

/-- The vectors' start: everything 0, the source's default device, the bytes at `pc`. -/
def start (pc : Word) (bytes : List Byte) : State := ({ State.reset with pc := pc, device := .silent } : State).place pc bytes

/-- Does the step answer a next state that passes the test? -/
def nextIs (r : Result) (f : State → Bool) : Bool :=
  match r with
  | .next t => f t
  | .fault _ => false
  | .refused _ => false

/-- Does the step fault with this reason? -/
def faultIs (r : Result) (f : Fault) : Bool :=
  match r with
  | .next _ => false
  | .fault g => f == g
  | .refused _ => false

/-- DT1: MOV C,B. -/
theorem test_DT1 : nextIs (step
    { start 0x0100#16 [0x48#8] with regs := ⟨0x9C, 0x11, 0x00, 0x00, 0x00, 0x00, 0x00⟩ })
    (fun t => t.regs.b == 0x9C#8 && t.regs.c == 0x9C#8 && t.pc == 0x0101#16 && t.tstates == 5) = true := by decide
/-- DT5: MOV H,M. -/
theorem test_DT5 : nextIs (step
    { put (start 0x0100#16 [0x66#8]) 0x2010 0x77#8 with regs := ⟨0x00, 0x00, 0x00, 0x00, 0x20, 0x10, 0x00⟩ })
    (fun t => t.regs.h == 0x77#8 && t.regs.l == 0x10#8 && t.pc == 0x0101#16 && t.tstates == 7) = true := by decide
/-- DT6: MOV M,H. -/
theorem test_DT6 : nextIs (step
    { start 0x0100#16 [0x74#8] with regs := ⟨0x00, 0x00, 0x00, 0x00, 0x20, 0x10, 0x00⟩ })
    (fun t => t.byteAt 0x2010#16 == 0x20#8 && t.pc == 0x0101#16 && t.tstates == 7) = true := by decide
/-- DT8: MVI B,0xFF. -/
theorem test_DT8 : nextIs (step
    (start 0x0100#16 [0x06#8, 0xFF#8]))
    (fun t => t.regs.b == 0xFF#8 && t.pc == 0x0102#16 && t.tstates == 7) = true := by decide
/-- DT9: MVI M,0x5A. -/
theorem test_DT9 : nextIs (step
    { start 0x0100#16 [0x36#8, 0x5A#8] with regs := ⟨0x00, 0x00, 0x00, 0x00, 0x30, 0x00, 0x00⟩ })
    (fun t => t.byteAt 0x3000#16 == 0x5A#8 && t.pc == 0x0102#16 && t.tstates == 10) = true := by decide
/-- DT10: MVI A,0x42 at 0xFFFF (operand at 0x0000). -/
theorem test_DT10 : nextIs (step
    (start 0xFFFF#16 [0x3E#8, 0x42#8]))
    (fun t => t.regs.a == 0x42#8 && t.pc == 0x0001#16 && t.tstates == 7) = true := by decide
/-- DT11: LXI B,0x1234. -/
theorem test_DT11 : nextIs (step
    (start 0x0100#16 [0x01#8, 0x34#8, 0x12#8]))
    (fun t => t.regs.b == 0x12#8 && t.regs.c == 0x34#8 && t.pc == 0x0103#16 && t.tstates == 10) = true := by decide
/-- DT12: LXI SP,0xFFFF. -/
theorem test_DT12 : nextIs (step
    (start 0x0100#16 [0x31#8, 0xFF#8, 0xFF#8]))
    (fun t => t.sp == 0xFFFF#16 && t.pc == 0x0103#16 && t.tstates == 10) = true := by decide
/-- DT13: LDA 0x2000. -/
theorem test_DT13 : nextIs (step
    (put (start 0x0100#16 [0x3A#8, 0x00#8, 0x20#8]) 0x2000 0x7F#8))
    (fun t => t.regs.a == 0x7F#8 && t.pc == 0x0103#16 && t.tstates == 13) = true := by decide
/-- DT14: STA 0x2010. -/
theorem test_DT14 : nextIs (step
    { start 0x0100#16 [0x32#8, 0x10#8, 0x20#8] with regs := ⟨0x00, 0x00, 0x00, 0x00, 0x00, 0x00, 0x55⟩ })
    (fun t => t.byteAt 0x2010#16 == 0x55#8 && t.pc == 0x0103#16 && t.tstates == 13) = true := by decide
/-- DT16: LHLD 0xFFFF (wraps). -/
theorem test_DT16 : nextIs (step
    (put (put (start 0x0100#16 [0x2A#8, 0xFF#8, 0xFF#8]) 0xFFFF 0x34#8) 0x0000 0x12#8))
    (fun t => t.regs.h == 0x12#8 && t.regs.l == 0x34#8 && t.pc == 0x0103#16 && t.tstates == 16) = true := by decide
/-- DT18: SHLD 0xFFFF (wraps). -/
theorem test_DT18 : nextIs (step
    { start 0x0100#16 [0x22#8, 0xFF#8, 0xFF#8] with regs := ⟨0x00, 0x00, 0x00, 0x00, 0xAB, 0xCD, 0x00⟩ })
    (fun t => t.byteAt 0xFFFF#16 == 0xCD#8 && t.byteAt 0x0000#16 == 0xAB#8 && t.pc == 0x0103#16 && t.tstates == 16) = true := by decide
/-- DT19: LDAX B. -/
theorem test_DT19 : nextIs (step
    { put (start 0x0100#16 [0x0A#8]) 0x2005 0x11#8 with regs := ⟨0x20, 0x05, 0x00, 0x00, 0x00, 0x00, 0x00⟩ })
    (fun t => t.regs.a == 0x11#8 && t.pc == 0x0101#16 && t.tstates == 7) = true := by decide
/-- DT22: STAX D. -/
theorem test_DT22 : nextIs (step
    { start 0x0100#16 [0x12#8] with regs := ⟨0x00, 0x00, 0x20, 0x06, 0x00, 0x00, 0x88⟩ })
    (fun t => t.byteAt 0x2006#16 == 0x88#8 && t.pc == 0x0101#16 && t.tstates == 7) = true := by decide
/-- DT23: XCHG. -/
theorem test_DT23 : nextIs (step
    { start 0x0100#16 [0xEB#8] with regs := ⟨0x00, 0x00, 0x11, 0x22, 0x33, 0x44, 0x00⟩ })
    (fun t => t.regs.d == 0x33#8 && t.regs.e == 0x44#8 && t.regs.h == 0x11#8 && t.regs.l == 0x22#8 && t.pc == 0x0101#16 && t.tstates == 4) = true := by decide
/-- AR4: ADD A. -/
theorem test_AR4 : nextIs (step
    { start 0x0100#16 [0x87#8] with regs := ⟨0x00, 0x00, 0x00, 0x00, 0x00, 0x00, 0x88⟩, flags := ⟨false, false, false, false, true⟩ })
    (fun t => t.regs.a == 0x10#8 && t.pc == 0x0101#16 && t.tstates == 4 && t.flags == ⟨false, false, true, false, true⟩) = true := by decide
/-- AR8: ADC B. -/
theorem test_AR8 : nextIs (step
    { start 0x0100#16 [0x88#8] with regs := ⟨0x3D, 0x00, 0x00, 0x00, 0x00, 0x00, 0x42⟩, flags := ⟨false, false, false, false, true⟩ })
    (fun t => t.regs.a == 0x80#8 && t.pc == 0x0101#16 && t.tstates == 4 && t.flags == ⟨true, false, true, false, false⟩) = true := by decide
/-- AR15: SUB B. -/
theorem test_AR15 : nextIs (step
    { start 0x0100#16 [0x90#8] with regs := ⟨0x01, 0x00, 0x00, 0x00, 0x00, 0x00, 0x80⟩, flags := ⟨false, false, false, false, true⟩ })
    (fun t => t.regs.a == 0x7F#8 && t.pc == 0x0101#16 && t.tstates == 4 && t.flags == ⟨false, false, false, false, false⟩) = true := by decide
/-- AR16: SUB A. -/
theorem test_AR16 : nextIs (step
    { start 0x0100#16 [0x97#8] with regs := ⟨0x00, 0x00, 0x00, 0x00, 0x00, 0x00, 0x5A⟩, flags := ⟨false, false, false, false, true⟩ })
    (fun t => t.regs.a == 0x00#8 && t.pc == 0x0101#16 && t.tstates == 4 && t.flags == ⟨false, true, true, true, false⟩) = true := by decide
/-- AR20: SBB B. -/
theorem test_AR20 : nextIs (step
    { start 0x0100#16 [0x98#8] with regs := ⟨0xFF, 0x00, 0x00, 0x00, 0x00, 0x00, 0x00⟩, flags := ⟨false, false, false, false, true⟩ })
    (fun t => t.regs.a == 0x00#8 && t.pc == 0x0101#16 && t.tstates == 4 && t.flags == ⟨false, true, false, true, true⟩) = true := by decide
/-- ARM1: ADD M. -/
theorem test_ARM1 : nextIs (step
    { put (start 0x0100#16 [0x86#8]) 0x2000 0x34#8 with regs := ⟨0x00, 0x00, 0x00, 0x00, 0x20, 0x00, 0x12⟩, flags := ⟨false, false, false, false, false⟩ })
    (fun t => t.regs.a == 0x46#8 && t.pc == 0x0101#16 && t.tstates == 7 && t.flags == ⟨false, false, false, false, false⟩) = true := by decide
/-- ARM4: SBB M. -/
theorem test_ARM4 : nextIs (step
    { put (start 0x0100#16 [0x9E#8]) 0x2000 0x1F#8 with regs := ⟨0x00, 0x00, 0x00, 0x00, 0x20, 0x00, 0x20⟩, flags := ⟨false, false, false, false, true⟩ })
    (fun t => t.regs.a == 0x00#8 && t.pc == 0x0101#16 && t.tstates == 7 && t.flags == ⟨false, true, false, true, false⟩) = true := by decide
/-- ARI1: ADI 0xFF. -/
theorem test_ARI1 : nextIs (step
    { start 0x0100#16 [0xC6#8, 0xFF#8] with regs := ⟨0x00, 0x00, 0x00, 0x00, 0x00, 0x00, 0x01⟩, flags := ⟨false, false, false, false, false⟩ })
    (fun t => t.regs.a == 0x00#8 && t.pc == 0x0102#16 && t.tstates == 7 && t.flags == ⟨false, true, true, true, true⟩) = true := by decide
/-- ARI3: ACI 0x42. -/
theorem test_ARI3 : nextIs (step
    { start 0x0100#16 [0xCE#8, 0x42#8] with regs := ⟨0x00, 0x00, 0x00, 0x00, 0x00, 0x00, 0x14⟩, flags := ⟨false, false, false, false, true⟩ })
    (fun t => t.regs.a == 0x57#8 && t.pc == 0x0102#16 && t.tstates == 7 && t.flags == ⟨false, false, false, false, false⟩) = true := by decide
/-- ARI5: SUI 0x01. -/
theorem test_ARI5 : nextIs (step
    { start 0x0100#16 [0xD6#8, 0x01#8] with regs := ⟨0x00, 0x00, 0x00, 0x00, 0x00, 0x00, 0x00⟩, flags := ⟨false, false, false, false, false⟩ })
    (fun t => t.regs.a == 0xFF#8 && t.pc == 0x0102#16 && t.tstates == 7 && t.flags == ⟨true, false, false, true, true⟩) = true := by decide
/-- ARI8: SBI 0xFF. -/
theorem test_ARI8 : nextIs (step
    { start 0x0100#16 [0xDE#8, 0xFF#8] with regs := ⟨0x00, 0x00, 0x00, 0x00, 0x00, 0x00, 0x00⟩, flags := ⟨false, false, false, false, true⟩ })
    (fun t => t.regs.a == 0x00#8 && t.pc == 0x0102#16 && t.tstates == 7 && t.flags == ⟨false, true, false, true, true⟩) = true := by decide
/-- ID5: INR B. -/
theorem test_ID5 : nextIs (step
    { start 0x0100#16 [0x04#8] with regs := ⟨0xFF, 0x00, 0x00, 0x00, 0x00, 0x00, 0x00⟩, flags := ⟨false, false, false, false, true⟩ })
    (fun t => t.regs.b == 0x00#8 && t.pc == 0x0101#16 && t.tstates == 5 && t.flags == ⟨false, true, true, true, true⟩) = true := by decide
/-- ID8: DCR B. -/
theorem test_ID8 : nextIs (step
    { start 0x0100#16 [0x05#8] with regs := ⟨0x00, 0x00, 0x00, 0x00, 0x00, 0x00, 0x00⟩, flags := ⟨false, false, false, false, false⟩ })
    (fun t => t.regs.b == 0xFF#8 && t.pc == 0x0101#16 && t.tstates == 5 && t.flags == ⟨true, false, false, true, false⟩) = true := by decide
/-- ID11: DCR L. -/
theorem test_ID11 : nextIs (step
    { start 0x0100#16 [0x2D#8] with regs := ⟨0x00, 0x00, 0x00, 0x00, 0x00, 0x20, 0x00⟩, flags := ⟨false, false, false, false, false⟩ })
    (fun t => t.regs.l == 0x1F#8 && t.pc == 0x0101#16 && t.tstates == 5 && t.flags == ⟨false, false, false, false, false⟩) = true := by decide
/-- ID13: DCR M, HL = 0x2000. -/
theorem test_ID13 : nextIs (step
    { put (start 0x0100#16 [0x35#8]) 0x2000 0x00#8 with regs := ⟨0x00, 0x00, 0x00, 0x00, 0x20, 0x00, 0x00⟩, flags := ⟨false, false, false, false, true⟩ })
    (fun t => t.byteAt 0x2000#16 == 0xFF#8 && t.pc == 0x0101#16 && t.tstates == 10 && t.flags == ⟨true, false, false, true, true⟩) = true := by decide
/-- ID14: INR M, HL = 0x2000. -/
theorem test_ID14 : nextIs (step
    { put (start 0x0100#16 [0x34#8]) 0x2000 0x2F#8 with regs := ⟨0x00, 0x00, 0x00, 0x00, 0x20, 0x00, 0x00⟩, flags := ⟨false, false, false, false, true⟩ })
    (fun t => t.byteAt 0x2000#16 == 0x30#8 && t.pc == 0x0101#16 && t.tstates == 10 && t.flags == ⟨false, false, true, true, true⟩) = true := by decide
/-- W1: INX B. -/
theorem test_W1 : nextIs (step
    { start 0x0100#16 [0x03#8] with regs := ⟨0xFF, 0xFF, 0x00, 0x00, 0x00, 0x00, 0x00⟩, flags := ⟨true, true, true, true, true⟩ })
    (fun t => t.regs.b == 0x00#8 && t.regs.c == 0x00#8 && t.pc == 0x0101#16 && t.tstates == 5 && t.flags == ⟨true, true, true, true, true⟩) = true := by decide
/-- W4: DCX D. -/
theorem test_W4 : nextIs (step
    { start 0x0100#16 [0x1B#8] with regs := ⟨0x00, 0x00, 0x00, 0x00, 0x00, 0x00, 0x00⟩ })
    (fun t => t.regs.d == 0xFF#8 && t.regs.e == 0xFF#8 && t.pc == 0x0101#16 && t.tstates == 5 && t.flags == ⟨false, false, false, false, false⟩) = true := by decide
/-- W5: DCX SP. -/
theorem test_W5 : nextIs (step
    { start 0x0100#16 [0x3B#8] with sp := 0x0000 })
    (fun t => t.sp == 0xFFFF#16 && t.pc == 0x0101#16 && t.tstates == 5 && t.flags == ⟨false, false, false, false, false⟩) = true := by decide
/-- W7: DAD B. -/
theorem test_W7 : nextIs (step
    { start 0x0100#16 [0x09#8] with regs := ⟨0x33, 0x9F, 0x00, 0x00, 0xA1, 0x7B, 0x00⟩, flags := ⟨true, true, true, true, true⟩ })
    (fun t => t.regs.h == 0xD5#8 && t.regs.l == 0x1A#8 && t.pc == 0x0101#16 && t.tstates == 10 && t.flags == ⟨true, true, true, true, false⟩) = true := by decide
/-- W10: DAD SP. -/
theorem test_W10 : nextIs (step
    { start 0x0100#16 [0x39#8] with regs := ⟨0x00, 0x00, 0x00, 0x00, 0x00, 0x01, 0x00⟩, sp := 0xFFFF })
    (fun t => t.regs.h == 0x00#8 && t.regs.l == 0x00#8 && t.sp == 0xFFFF#16 && t.pc == 0x0101#16 && t.tstates == 10 && t.flags == ⟨false, false, false, false, true⟩) = true := by decide
/-- LG2: ANA B. -/
theorem test_LG2 : nextIs (step
    { start 0x0100#16 [0xA0#8] with regs := ⟨0x0F, 0x00, 0x00, 0x00, 0x00, 0x00, 0xF0⟩, flags := ⟨false, false, false, false, true⟩ })
    (fun t => t.regs.a == 0x00#8 && t.pc == 0x0101#16 && t.tstates == 4 && t.flags == ⟨false, true, true, true, false⟩) = true := by decide
/-- LG5: ANA B. -/
theorem test_LG5 : nextIs (step
    { start 0x0100#16 [0xA0#8] with regs := ⟨0xF7, 0x00, 0x00, 0x00, 0x00, 0x00, 0xF7⟩, flags := ⟨false, false, false, false, false⟩ })
    (fun t => t.regs.a == 0xF7#8 && t.pc == 0x0101#16 && t.tstates == 4 && t.flags == ⟨true, false, false, false, false⟩) = true := by decide
/-- LG6: XRA B. -/
theorem test_LG6 : nextIs (step
    { start 0x0100#16 [0xA8#8] with regs := ⟨0x0F, 0x00, 0x00, 0x00, 0x00, 0x00, 0xFF⟩, flags := ⟨false, false, false, false, true⟩ })
    (fun t => t.regs.a == 0xF0#8 && t.pc == 0x0101#16 && t.tstates == 4 && t.flags == ⟨true, false, false, true, false⟩) = true := by decide
/-- LG9: ORA B. -/
theorem test_LG9 : nextIs (step
    { start 0x0100#16 [0xB0#8] with regs := ⟨0x0F, 0x00, 0x00, 0x00, 0x00, 0x00, 0x33⟩, flags := ⟨false, false, false, false, true⟩ })
    (fun t => t.regs.a == 0x3F#8 && t.pc == 0x0101#16 && t.tstates == 4 && t.flags == ⟨false, false, false, true, false⟩) = true := by decide
/-- LG13: CMP B. -/
theorem test_LG13 : nextIs (step
    { start 0x0100#16 [0xB8#8] with regs := ⟨0x05, 0x00, 0x00, 0x00, 0x00, 0x00, 0x02⟩, flags := ⟨false, false, false, false, false⟩ })
    (fun t => t.regs.a == 0x02#8 && t.pc == 0x0101#16 && t.tstates == 4 && t.flags == ⟨true, false, false, false, true⟩) = true := by decide
/-- LG17: CMP B. -/
theorem test_LG17 : nextIs (step
    { start 0x0100#16 [0xB8#8] with regs := ⟨0x80, 0x00, 0x00, 0x00, 0x00, 0x00, 0x00⟩, flags := ⟨false, false, false, false, false⟩ })
    (fun t => t.regs.a == 0x00#8 && t.pc == 0x0101#16 && t.tstates == 4 && t.flags == ⟨true, false, true, false, true⟩) = true := by decide
/-- LGI1: ANI 0x0F. -/
theorem test_LGI1 : nextIs (step
    { start 0x0100#16 [0xE6#8, 0x0F#8] with regs := ⟨0x00, 0x00, 0x00, 0x00, 0x00, 0x00, 0x3A⟩, flags := ⟨false, false, false, false, true⟩ })
    (fun t => t.regs.a == 0x0A#8 && t.pc == 0x0102#16 && t.tstates == 7 && t.flags == ⟨false, false, true, true, false⟩) = true := by decide
/-- LGI3: XRI 0x81. -/
theorem test_LGI3 : nextIs (step
    { start 0x0100#16 [0xEE#8, 0x81#8] with regs := ⟨0x00, 0x00, 0x00, 0x00, 0x00, 0x00, 0x3B⟩, flags := ⟨false, false, false, false, true⟩ })
    (fun t => t.regs.a == 0xBA#8 && t.pc == 0x0102#16 && t.tstates == 7 && t.flags == ⟨true, false, false, false, false⟩) = true := by decide
/-- LGI5: ORI 0x0F. -/
theorem test_LGI5 : nextIs (step
    { start 0x0100#16 [0xF6#8, 0x0F#8] with regs := ⟨0x00, 0x00, 0x00, 0x00, 0x00, 0x00, 0xB5⟩, flags := ⟨false, false, false, false, true⟩ })
    (fun t => t.regs.a == 0xBF#8 && t.pc == 0x0102#16 && t.tstates == 7 && t.flags == ⟨true, false, false, false, false⟩) = true := by decide
/-- LGI8: CPI 0x4B. -/
theorem test_LGI8 : nextIs (step
    { start 0x0100#16 [0xFE#8, 0x4B#8] with regs := ⟨0x00, 0x00, 0x00, 0x00, 0x00, 0x00, 0x4A⟩, flags := ⟨false, false, false, false, false⟩ })
    (fun t => t.regs.a == 0x4A#8 && t.pc == 0x0102#16 && t.tstates == 7 && t.flags == ⟨true, false, false, true, true⟩) = true := by decide
/-- RT1: RLC. -/
theorem test_RT1 : nextIs (step
    { start 0x0100#16 [0x07#8] with regs := ⟨0x00, 0x00, 0x00, 0x00, 0x00, 0x00, 0xF2⟩, flags := ⟨true, false, true, false, false⟩ })
    (fun t => t.regs.a == 0xE5#8 && t.pc == 0x0101#16 && t.tstates == 4 && t.flags == ⟨true, false, true, false, true⟩) = true := by decide
/-- RT4: RRC. -/
theorem test_RT4 : nextIs (step
    { start 0x0100#16 [0x0F#8] with regs := ⟨0x00, 0x00, 0x00, 0x00, 0x00, 0x00, 0xF2⟩, flags := ⟨true, false, true, false, true⟩ })
    (fun t => t.regs.a == 0x79#8 && t.pc == 0x0101#16 && t.tstates == 4 && t.flags == ⟨true, false, true, false, false⟩) = true := by decide
/-- RT5: RRC. -/
theorem test_RT5 : nextIs (step
    { start 0x0100#16 [0x0F#8] with regs := ⟨0x00, 0x00, 0x00, 0x00, 0x00, 0x00, 0x01⟩, flags := ⟨true, false, true, false, false⟩ })
    (fun t => t.regs.a == 0x80#8 && t.pc == 0x0101#16 && t.tstates == 4 && t.flags == ⟨true, false, true, false, true⟩) = true := by decide
/-- RT8: RAL. -/
theorem test_RT8 : nextIs (step
    { start 0x0100#16 [0x17#8] with regs := ⟨0x00, 0x00, 0x00, 0x00, 0x00, 0x00, 0x80⟩, flags := ⟨true, false, true, false, true⟩ })
    (fun t => t.regs.a == 0x01#8 && t.pc == 0x0101#16 && t.tstates == 4 && t.flags == ⟨true, false, true, false, true⟩) = true := by decide
/-- RT9: RAR. -/
theorem test_RT9 : nextIs (step
    { start 0x0100#16 [0x1F#8] with regs := ⟨0x00, 0x00, 0x00, 0x00, 0x00, 0x00, 0x6A⟩, flags := ⟨true, false, true, false, true⟩ })
    (fun t => t.regs.a == 0xB5#8 && t.pc == 0x0101#16 && t.tstates == 4 && t.flags == ⟨true, false, true, false, false⟩) = true := by decide
/-- RT11: RAR. -/
theorem test_RT11 : nextIs (step
    { start 0x0100#16 [0x1F#8] with regs := ⟨0x00, 0x00, 0x00, 0x00, 0x00, 0x00, 0x00⟩, flags := ⟨true, false, true, false, true⟩ })
    (fun t => t.regs.a == 0x80#8 && t.pc == 0x0101#16 && t.tstates == 4 && t.flags == ⟨true, false, true, false, false⟩) = true := by decide
/-- RT12: CMA. -/
theorem test_RT12 : nextIs (step
    { start 0x0100#16 [0x2F#8] with regs := ⟨0x00, 0x00, 0x00, 0x00, 0x00, 0x00, 0x51⟩, flags := ⟨true, false, true, false, true⟩ })
    (fun t => t.regs.a == 0xAE#8 && t.pc == 0x0101#16 && t.tstates == 4 && t.flags == ⟨true, false, true, false, true⟩) = true := by decide
/-- RT14: STC. -/
theorem test_RT14 : nextIs (step
    { start 0x0100#16 [0x37#8] with regs := ⟨0x00, 0x00, 0x00, 0x00, 0x00, 0x00, 0x12⟩, flags := ⟨true, false, true, false, false⟩ })
    (fun t => t.regs.a == 0x12#8 && t.pc == 0x0101#16 && t.tstates == 4 && t.flags == ⟨true, false, true, false, true⟩) = true := by decide
/-- RT17: CMC. -/
theorem test_RT17 : nextIs (step
    { start 0x0100#16 [0x3F#8] with regs := ⟨0x00, 0x00, 0x00, 0x00, 0x00, 0x00, 0x12⟩, flags := ⟨true, false, true, false, true⟩ })
    (fun t => t.regs.a == 0x12#8 && t.pc == 0x0101#16 && t.tstates == 4 && t.flags == ⟨true, false, true, false, false⟩) = true := by decide
/-- BR1: JMP 0x0200. -/
theorem test_BR1 : nextIs (step
    { start 0x0100#16 [0xC3#8, 0x00#8, 0x02#8] with sp := 0x2400 })
    (fun t => t.sp == 0x2400#16 && t.pc == 0x0200#16 && t.tstates == 10) = true := by decide
/-- BR4: JNZ 0x0300. -/
theorem test_BR4 : nextIs (step
    { start 0x0100#16 [0xC2#8, 0x00#8, 0x03#8] with flags := ⟨false, true, false, false, false⟩, sp := 0x2400 })
    (fun t => t.sp == 0x2400#16 && t.pc == 0x0103#16 && t.tstates == 10) = true := by decide
/-- BR6: JZ 0x0300. -/
theorem test_BR6 : nextIs (step
    { start 0x0100#16 [0xCA#8, 0x00#8, 0x03#8] with flags := ⟨false, true, false, false, false⟩, sp := 0x2400 })
    (fun t => t.sp == 0x2400#16 && t.pc == 0x0300#16 && t.tstates == 10) = true := by decide
/-- BR8: JNC 0x0300. -/
theorem test_BR8 : nextIs (step
    { start 0x0100#16 [0xD2#8, 0x00#8, 0x03#8] with flags := ⟨false, false, false, false, true⟩, sp := 0x2400 })
    (fun t => t.sp == 0x2400#16 && t.pc == 0x0103#16 && t.tstates == 10) = true := by decide
/-- BR10: JC 0x0300. -/
theorem test_BR10 : nextIs (step
    { start 0x0100#16 [0xDA#8, 0x00#8, 0x03#8] with flags := ⟨false, false, false, false, true⟩, sp := 0x2400 })
    (fun t => t.sp == 0x2400#16 && t.pc == 0x0300#16 && t.tstates == 10) = true := by decide
/-- BR11: JPO 0x0300. -/
theorem test_BR11 : nextIs (step
    { start 0x0100#16 [0xE2#8, 0x00#8, 0x03#8] with flags := ⟨false, false, false, false, false⟩, sp := 0x2400 })
    (fun t => t.sp == 0x2400#16 && t.pc == 0x0300#16 && t.tstates == 10) = true := by decide
/-- BR14: JPE 0x0300. -/
theorem test_BR14 : nextIs (step
    { start 0x0100#16 [0xEA#8, 0x00#8, 0x03#8] with flags := ⟨false, false, false, true, false⟩, sp := 0x2400 })
    (fun t => t.sp == 0x2400#16 && t.pc == 0x0300#16 && t.tstates == 10) = true := by decide
/-- BR16: JP 0x0300. -/
theorem test_BR16 : nextIs (step
    { start 0x0100#16 [0xF2#8, 0x00#8, 0x03#8] with flags := ⟨true, false, false, false, false⟩, sp := 0x2400 })
    (fun t => t.sp == 0x2400#16 && t.pc == 0x0103#16 && t.tstates == 10) = true := by decide
/-- BR18: JM 0x0300. -/
theorem test_BR18 : nextIs (step
    { start 0x0100#16 [0xFA#8, 0x00#8, 0x03#8] with flags := ⟨true, false, false, false, false⟩, sp := 0x2400 })
    (fun t => t.sp == 0x2400#16 && t.pc == 0x0300#16 && t.tstates == 10) = true := by decide
/-- BR20: CALL 0x0200 with sp = 0x0001. -/
theorem test_BR20 : nextIs (step
    { start 0x0100#16 [0xCD#8, 0x00#8, 0x02#8] with sp := 0x0001 })
    (fun t => t.sp == 0xFFFF#16 && t.byteAt 0x0000#16 == 0x01#8 && t.byteAt 0xFFFF#16 == 0x03#8 && t.pc == 0x0200#16 && t.tstates == 17) = true := by decide
/-- BR22: CNZ 0x0400. -/
theorem test_BR22 : nextIs (step
    { start 0x0100#16 [0xC4#8, 0x00#8, 0x04#8] with flags := ⟨false, true, false, false, false⟩, sp := 0x2400 })
    (fun t => t.sp == 0x2400#16 && t.pc == 0x0103#16 && t.tstates == 11) = true := by decide
/-- BR25: CM 0x0400. -/
theorem test_BR25 : nextIs (step
    { start 0x0100#16 [0xFC#8, 0x00#8, 0x04#8] with flags := ⟨true, false, false, false, false⟩, sp := 0x2400 })
    (fun t => t.sp == 0x23FE#16 && t.byteAt 0x23FF#16 == 0x01#8 && t.byteAt 0x23FE#16 == 0x03#8 && t.pc == 0x0400#16 && t.tstates == 17) = true := by decide
/-- BR26: RET. -/
theorem test_BR26 : nextIs (step
    { put (put (start 0x0100#16 [0xC9#8]) 0x2400 0x03#8) 0x2401 0x01#8 with sp := 0x2400 })
    (fun t => t.sp == 0x2402#16 && t.pc == 0x0103#16 && t.tstates == 10) = true := by decide
/-- BR27: RET with sp = 0xFFFF (wraps). -/
theorem test_BR27 : nextIs (step
    { put (put (start 0x0100#16 [0xC9#8]) 0xFFFF 0x34#8) 0x0000 0x12#8 with sp := 0xFFFF })
    (fun t => t.sp == 0x0001#16 && t.pc == 0x1234#16 && t.tstates == 10) = true := by decide
/-- BR29: RZ. -/
theorem test_BR29 : nextIs (step
    { put (put (start 0x0100#16 [0xC8#8]) 0x2400 0x03#8) 0x2401 0x01#8 with flags := ⟨false, false, false, false, false⟩, sp := 0x2400 })
    (fun t => t.sp == 0x2400#16 && t.pc == 0x0101#16 && t.tstates == 5) = true := by decide
/-- BR32: RM. -/
theorem test_BR32 : nextIs (step
    { put (put (start 0x0100#16 [0xF8#8]) 0x2400 0x78#8) 0x2401 0x56#8 with flags := ⟨true, false, false, false, false⟩, sp := 0x2400 })
    (fun t => t.sp == 0x2402#16 && t.pc == 0x5678#16 && t.tstates == 11) = true := by decide
/-- BR39: RST 6. -/
theorem test_BR39 : nextIs (step
    { start 0x0100#16 [0xF7#8] with sp := 0x2400 })
    (fun t => t.sp == 0x23FE#16 && t.byteAt 0x23FF#16 == 0x01#8 && t.byteAt 0x23FE#16 == 0x01#8 && t.pc == 0x0030#16 && t.tstates == 11) = true := by decide
/-- BR41: PCHL. -/
theorem test_BR41 : nextIs (step
    { start 0x0100#16 [0xE9#8] with regs := ⟨0x00, 0x00, 0x00, 0x00, 0x12, 0x34, 0x00⟩, sp := 0x2400 })
    (fun t => t.sp == 0x2400#16 && t.pc == 0x1234#16 && t.tstates == 5) = true := by decide
/-- BR42: alias 0xCB (JMP) 0x0200. -/
theorem test_BR42 : nextIs (step
    { start 0x0100#16 [0xCB#8, 0x00#8, 0x02#8] with sp := 0x2400 })
    (fun t => t.sp == 0x2400#16 && t.pc == 0x0200#16 && t.tstates == 10) = true := by decide
/-- BR43: alias 0xD9 (RET). -/
theorem test_BR43 : nextIs (step
    { put (put (start 0x0100#16 [0xD9#8]) 0x2400 0x03#8) 0x2401 0x01#8 with sp := 0x2400 })
    (fun t => t.sp == 0x2402#16 && t.pc == 0x0103#16 && t.tstates == 10) = true := by decide
/-- BR46: alias 0xFD (CALL) 0x0200. -/
theorem test_BR46 : nextIs (step
    { start 0x0100#16 [0xFD#8, 0x00#8, 0x02#8] with sp := 0x2400 })
    (fun t => t.sp == 0x23FE#16 && t.byteAt 0x23FF#16 == 0x01#8 && t.byteAt 0x23FE#16 == 0x03#8 && t.pc == 0x0200#16 && t.tstates == 17) = true := by decide
/-- SK3: PUSH H with sp = 0x0001. -/
theorem test_SK3 : nextIs (step
    { start 0x0100#16 [0xE5#8] with regs := ⟨0x00, 0x00, 0x00, 0x00, 0xAA, 0xBB, 0x00⟩, sp := 0x0001 })
    (fun t => t.byteAt 0x0000#16 == 0xAA#8 && t.byteAt 0xFFFF#16 == 0xBB#8 && t.sp == 0xFFFF#16 && t.pc == 0x0101#16 && t.tstates == 11) = true := by decide
/-- SK4: PUSH PSW. -/
theorem test_SK4 : nextIs (step
    { start 0x0100#16 [0xF5#8] with regs := ⟨0x00, 0x00, 0x00, 0x00, 0x00, 0x00, 0x1F⟩, flags := ⟨false, true, false, true, true⟩, sp := 0x502A })
    (fun t => t.byteAt 0x5029#16 == 0x1F#8 && t.byteAt 0x5028#16 == 0x47#8 && t.sp == 0x5028#16 && t.pc == 0x0101#16 && t.tstates == 11) = true := by decide
/-- SK6: PUSH PSW, all flags 1. -/
theorem test_SK6 : nextIs (step
    { start 0x0100#16 [0xF5#8] with regs := ⟨0x00, 0x00, 0x00, 0x00, 0x00, 0x00, 0xFF⟩, flags := ⟨true, true, true, true, true⟩, sp := 0x2400 })
    (fun t => t.byteAt 0x23FF#16 == 0xFF#8 && t.byteAt 0x23FE#16 == 0xD7#8 && t.pc == 0x0101#16 && t.tstates == 11) = true := by decide
/-- SK9: POP D with sp = 0xFFFF. -/
theorem test_SK9 : nextIs (step
    { put (put (start 0x0100#16 [0xD1#8]) 0xFFFF 0x22#8) 0x0000 0x11#8 with sp := 0xFFFF })
    (fun t => t.regs.d == 0x11#8 && t.regs.e == 0x22#8 && t.sp == 0x0001#16 && t.pc == 0x0101#16 && t.tstates == 10) = true := by decide
/-- SK10: POP PSW. -/
theorem test_SK10 : nextIs (step
    { put (put (start 0x0100#16 [0xF1#8]) 0x2C00 0xC3#8) 0x2C01 0xFF#8 with sp := 0x2C00 })
    (fun t => t.regs.a == 0xFF#8 && t.sp == 0x2C02#16 && t.pc == 0x0101#16 && t.tstates == 10 && t.flags == ⟨true, true, false, false, true⟩) = true := by decide
/-- SK12: POP PSW, byte 0x28 (only fixed-bit positions set). -/
theorem test_SK12 : nextIs (step
    { put (put (start 0x0100#16 [0xF1#8]) 0x2C00 0x28#8) 0x2C01 0x00#8 with sp := 0x2C00 })
    (fun t => t.regs.a == 0x00#8 && t.pc == 0x0101#16 && t.tstates == 10 && t.flags == ⟨false, false, false, false, false⟩) = true := by decide
/-- SK13: XTHL. -/
theorem test_SK13 : nextIs (step
    { put (put (start 0x0100#16 [0xE3#8]) 0x10AD 0xF0#8) 0x10AE 0x0D#8 with regs := ⟨0x00, 0x00, 0x00, 0x00, 0x0B, 0x3C, 0x00⟩, sp := 0x10AD })
    (fun t => t.regs.h == 0x0D#8 && t.regs.l == 0xF0#8 && t.byteAt 0x10AD#16 == 0x3C#8 && t.byteAt 0x10AE#16 == 0x0B#8 && t.sp == 0x10AD#16 && t.pc == 0x0101#16 && t.tstates == 18) = true := by decide
/-- SK14: SPHL. -/
theorem test_SK14 : nextIs (step
    { start 0x0100#16 [0xF9#8] with regs := ⟨0x00, 0x00, 0x00, 0x00, 0x50, 0x6C, 0x00⟩ })
    (fun t => t.sp == 0x506C#16 && t.pc == 0x0101#16 && t.tstates == 5) = true := by decide
/-- SK22: alias 0x38 (NOP). -/
theorem test_SK22 : nextIs (step
    (start 0x0100#16 [0x38#8]))
    (fun t => t.pc == 0x0101#16 && t.tstates == 4) = true := by decide
/-- SK23: HLT. -/
theorem test_SK23 : nextIs (step
    (start 0x0100#16 [0x76#8]))
    (fun t => t.pc == 0x0100#16 && t.tstates == 7) = true := by decide
/-- IO2: IN 0x10. -/
theorem test_IO2 : nextIs (step
    { start 0x0100#16 [0xDB#8, 0x10#8] with regs := ⟨0x00, 0x00, 0x00, 0x00, 0x00, 0x00, 0x77⟩, device := .answering [0x5A#8] })
    (fun t => t.regs.a == 0x5A#8 && t.pc == 0x0102#16 && t.tstates == 10 && t.events == [.input 0x10#8 0x5A#8]) = true := by decide
/-- IO4: OUT 0x01. -/
theorem test_IO4 : nextIs (step
    { start 0x0100#16 [0xD3#8, 0x01#8] with regs := ⟨0x00, 0x00, 0x00, 0x00, 0x00, 0x00, 0x41⟩ })
    (fun t => t.regs.a == 0x41#8 && t.pc == 0x0102#16 && t.tstates == 10 && t.events == [.output 0x01#8 0x41#8]) = true := by decide
/-- IO6: EI. -/
theorem test_IO6 : nextIs (step
    { start 0x0100#16 [0xFB#8] with inte := true })
    (fun t => t.inte == true && t.pc == 0x0101#16 && t.tstates == 4 && t.events == [.inte true]) = true := by decide
/-- IO7: DI. -/
theorem test_IO7 : nextIs (step
    { start 0x0100#16 [0xF3#8] with inte := true })
    (fun t => t.inte == false && t.pc == 0x0101#16 && t.tstates == 4 && t.events == [.inte false]) = true := by decide

/-! ### Faults, from 95_test_vectors.md 2.6 -/

/-- The ranges of the PF vectors. -/
def guarded : MemVariant := .checked [⟨0x0000, 0x1000, .read⟩, ⟨0x2000, 0x3000, .both⟩]

/-- PF4: MOV M,A into a Read range. -/
theorem test_PF4 : faultIs (step { start 0x0100#16 [0x77#8] with variant := guarded, regs := ⟨0, 0, 0, 0, 0x05, 0x00, 0x01⟩ })
    (.accessViolation 0x0500#16 .write) = true := by decide
/-- PF5: INR M in a Read range: the read succeeds, the write faults. -/
theorem test_PF5 : faultIs (step { start 0x0100#16 [0x34#8] with variant := guarded, regs := ⟨0, 0, 0, 0, 0x05, 0x00, 0⟩ })
    (.accessViolation 0x0500#16 .write) = true := by decide
/-- PF6: PUSH B across the lower end of the Both range: the high byte is stored, the low byte faults. -/
theorem test_PF6 : faultIs (step { start 0x0100#16 [0xC5#8] with variant := guarded, sp := 0x2001#16 })
    (.accessViolation 0x1FFF#16 .write) = true := by decide
/-- PF7: CALL with an unmapped stack. -/
theorem test_PF7 : faultIs (step { start 0x0100#16 [0xCD#8, 0x00#8, 0x02#8] with variant := guarded, sp := 0x4000#16 })
    (.accessViolation 0x3FFF#16 .write) = true := by decide
/-- PF10: JZ faults fetching its second operand byte although Z = 0. -/
theorem test_PF10 : faultIs (step { start 0x0FFE#16 [0xCA#8, 0x00#8, 0x03#8] with variant := guarded })
    (.accessViolation 0x1000#16 .read) = true := by decide
/-- PF11: XTHL in a Read range: the first write faults. -/
theorem test_PF11 : faultIs (step { start 0x0100#16 [0xE3#8] with variant := guarded, sp := 0x0800#16 })
    (.accessViolation 0x0800#16 .write) = true := by decide
/-- PF12: RZ with Z = 0 does not read the unmapped stack. -/
theorem test_PF12 : nextIs (step { start 0x0100#16 [0xC8#8] with variant := guarded, sp := 0x1800#16 })
    (fun t => t.pc == 0x0101#16 && t.sp == 0x1800#16 && t.tstates == 5) = true := by decide
/-- PM13, PM14: two overlapping ranges in the two orders. -/
theorem test_PM13_PM14 :
    resolve [⟨0x0000, 0x1000, .read⟩, ⟨0x0000, 0x10000, .both⟩] 0x0800 = .read ∧
    resolve [⟨0x0000, 0x10000, .both⟩, ⟨0x0000, 0x1000, .read⟩] 0x0800 = .both := by decide
/-- PM17, PM18: an empty and an inverted range. -/
theorem test_PM17_PM18 :
    faultIs (hostStep (.addRange 0x0100 0x0100 .read) { State.reset with variant := .checked [] }) (.invalidRange 0x0100 0x0100) = true ∧
    faultIs (hostStep (.addRange 0x0200 0x0100 .both) { State.reset with variant := .checked [] }) (.invalidRange 0x0200 0x0100) = true := by
  decide
/-- 92_eei_decisions.md D15: a bound above 0x10000 is refused, lower >= upper or not; 0x10000 itself is in the domain. -/
theorem test_range_bounds :
    let s := { State.reset with variant := .checked [] }
    hostStep (.addRange 0x20000 0x0100 .read) s = .refused (.rangeBoundPastTop 0x20000 0x0100) ∧
    hostStep (.addRange 0x0100 0x10001 .read) s = .refused (.rangeBoundPastTop 0x0100 0x10001) ∧
    hostStep (.addRange 0x10000 0x10000 .read) s = .fault (.invalidRange 0x10000 0x10000) := ⟨rfl, rfl, rfl⟩
/-- The access marks of INR M at 0x0100 with HL = 0x2000, and of CALL with sp = 0xFFFF. -/
theorem test_marks :
    nextIs (step { start 0x0100#16 [0x34#8] with marking := true, regs := ⟨0, 0, 0, 0, 0x20, 0x00, 0⟩ })
      (fun t => t.readMarks == [0x0100, 0x2000] && t.writeMarks == [0x2000]) = true ∧
    nextIs (step { start 0x0100#16 [0xCD#8, 0x00#8, 0x02#8] with marking := true, sp := 0xFFFF#16 })
      (fun t => t.readMarks == [0x0100, 0x0101, 0x0102] && t.writeMarks == [0xFFFD, 0xFFFE]) = true := by decide
/-- Host operations: bulkLoad of three bytes, bulkLoad past the top refused, a raw write of 0x1FF at 0x10000. -/
theorem test_host_memory :
    nextIs (bulkLoad [0x3E, 0x42, 0x47] 0x0100 State.reset)
      (fun t => t.mem == [(0x0100, 0x3E#8), (0x0101, 0x42#8), (0x0102, 0x47#8)]) = true ∧
    nextIs (bulkLoad [1, 2] 0xFFFF State.reset) (fun _ => true) = false ∧
    nextIs (hostStep (.write 0x10000 0x1FF) State.reset) (fun t => t.byteAt 0x0000#16 == 0xFF#8) = true := by decide

/-! ### The interrupt latch, from 95_test_vectors.md 2.7 -/

/-- INTE = 1, sp = 0x2400, the bytes at 0x0100. -/
def enabled (bytes : List Byte) : State := { start 0x0100#16 bytes with inte := true, sp := 0x2400#16 }

/-- IN2: RST 7 pushes the address of the instruction not yet executed. -/
theorem test_IN2 : nextIs (step (requestInterrupt 0xFF (enabled [0x00#8])).1)
    (fun t => t.pc == 0x0038#16 && t.sp == 0x23FE#16 && t.byteAt 0x23FF#16 == 0x01#8 && t.byteAt 0x23FE#16 == 0x00#8 &&
      !t.intPending && t.inte && t.tstates == 11) = true := by decide
/-- IN4: a second request replaces the first. -/
theorem test_IN4 : nextIs (step (requestInterrupt 0xEF (requestInterrupt 0xD7 (enabled [])).1).1)
    (fun t => t.pc == 0x0028#16) = true := by decide
/-- IN6: an injected DI. -/
theorem test_IN6 : nextIs (step (requestInterrupt 0xF3 (enabled [])).1)
    (fun t => !t.inte && !t.intPending && t.pc == 0x0100#16 && t.events == [.inte false] && t.tstates == 4) = true := by decide
/-- IN7: a vector above 0xFF. -/
theorem test_IN7 : faultIs (step (requestInterrupt 0x01FF (enabled [])).1) (.illegalDecode 0x01FF#16) = true := by decide
/-- IN8: an injected CALL takes its operand from the bytes at pc. -/
theorem test_IN8 : nextIs (step (requestInterrupt 0xCD (enabled [0x00#8, 0x02#8, 0x03#8])).1)
    (fun t => t.pc == 0x0200#16 && t.byteAt 0x23FF#16 == 0x01#8 && t.byteAt 0x23FE#16 == 0x02#8 && t.tstates == 17) = true := by
  decide
/-- IN10: an injected HLT subtracts one from a pc that no fetch advanced. -/
theorem test_IN10 : nextIs (step (requestInterrupt 0x76 { enabled [] with pc := 0x0200#16 }).1)
    (fun t => t.pc == 0x01FF#16 && t.tstates == 7) = true := by decide

/-! ### The figures (00_scope.md R7 `TSTATES`, 70_reset_and_hazards.md R380) -/

/-- A table with taken figure 100 and not-taken figure 200 for CALL (0xCD), 300 for the byte 0xDD and 1 and 2 elsewhere. -/
def otherFigures : TstateTable :=
  (Vector.replicate 16 (Vector.replicate 16 ⟨1, 2⟩)).set 12 ((Vector.replicate 16 ⟨1, 2⟩).set 13 ⟨100, 200⟩) |>.set 13
    ((Vector.replicate 16 ⟨1, 2⟩).set 13 ⟨300, 300⟩)

/-- The figure is that of the core's own table; the alias 0xDD has the figure of CALL (30_encoding.md R113). -/
theorem test_figures_are_a_parameter :
    nextIs (step { start 0x0100#16 [0xDD#8, 0x00#8, 0x02#8] with figures := otherFigures }) (fun t => t.tstates == 100) = true ∧
    nextIs (step { start 0x0100#16 [0x80#8] with figures := otherFigures }) (fun t => t.tstates == 1) = true ∧
    nextIs (step { start 0x0100#16 [0xC8#8] with figures := otherFigures }) (fun t => t.tstates == 2) = true ∧
    nextIs (step { start 0x0100#16 [0xCA#8, 0x00#8, 0x02#8] with figures := otherFigures, tJccNotTaken := 7 })
      (fun t => t.tstates == 7) = true := by decide

/-- The source's own figures (R380): MOV 5, with M 7; the ALU group 4, with M 7; MVI A 7; a failed conditional return or
call costs less than one that succeeds. -/
theorem test_default_figures :
    defaultFigures.figure 0x47#8 true = 5 ∧ defaultFigures.figure 0x46#8 true = 7 ∧ defaultFigures.figure 0x80#8 true = 4 ∧
    defaultFigures.figure 0x86#8 true = 7 ∧ defaultFigures.figure 0x3E#8 true = 7 ∧
    defaultFigures.figure 0xC8#8 false < defaultFigures.figure 0xC8#8 true ∧
    defaultFigures.figure 0xCC#8 false < defaultFigures.figure 0xCC#8 true := by decide

/-! ### Witnesses: a concrete state and operands that meet the hypotheses of each obligation -/

/-- A machine in which no access is allowed. -/
def closed : State := { State.reset with variant := .checked [] }
/-- All addresses readable, none writable. -/
def readOnly : State := { State.reset with variant := .checked [⟨0, 0x10000, .read⟩], sp := 0x0001#16 }
/-- All addresses writable, none readable. -/
def writeOnly : State := { State.reset with variant := .checked [⟨0, 0x10000, .write⟩], sp := 0xFFFF#16 }
/-- Everything allowed by a table, INTE on, marks on, a stack that wraps, a request latched, a byte in memory. -/
def busy : State :=
  { State.reset with
    variant := .checked [⟨0, 0x10000, .both⟩], marking := true, inte := true, intPending := true, intVector := 0x00FF#16
    sp := 0x0001#16, mem := [(0xFFFF, 0x76#8)], readMarks := [0, 0xFFFF], writeMarks := [0x8000] }

theorem busy_allows (a : Word) (dir : Direction) : busy.allows a dir = true := by
  have h : resolve [⟨0, 0x10000, .both⟩] a.toNat = .both := by
    have := a.isLt
    simp [resolve, PermRange.covers]
    omega
  simp only [State.allows, busy, h]
  cases dir <;> rfl

theorem witness_ConstructionSatisfiesInv :
    (MemVariant.checked [⟨0, 1, .none⟩, ⟨0xFFFF, 0x10000, .both⟩]).wf = true ∧ Memory.wf [(0, 0x01#8), (0xFFFF, 0xFF#8)] = true := by
  decide

theorem witness_StepKeepsInv : busy.Inv ∧ (∃ t, step busy = .next t) ∧ State.reset.Inv ∧ ∃ t, step State.reset = .next t :=
  ⟨by decide, ⟨_, rfl⟩, by decide, ⟨_, rfl⟩⟩

theorem witness_HostMovesKeepInv :
    (∃ t, hostStep (.addRange 0xFFFF 0x10000 .write) busy = .next t) ∧ (∃ t, hostStep (.write 0x1FFFF 0x1FF) busy = .next t) ∧
    Reachable State.reset :=
  ⟨⟨_, rfl⟩, ⟨_, rfl⟩, .constructed ⟨.plain, false, .answering [], defaultFigures, 10⟩
    ⟨State.reset.regs, State.reset.flags, 0, 0, 0, []⟩ rfl rfl⟩

theorem witness_DecodeOfEncode :
    (Instr.nopAlias 7#3).wellFormed = true ∧ (Instr.callAlias 1#2 0xFFFF#16).wellFormed = true ∧ (Instr.cpi 0xFF#8).wellFormed = true := by
  decide

theorem witness_EncodeOfDecode : decode [0xFD#8, 0xFF#8, 0x00#8, 0x76#8] = .ok (.callAlias 3#2 0x00FF#16, [0x76#8]) := rfl

theorem witness_EveryOpcodeBytePerforms :
    (∀ a dir, busy.allows a dir = true) ∧ (∀ a dir, State.reset.allows a dir = true) ∧ State.reset.intPending = false :=
  ⟨busy_allows, fun _ _ => rfl, rfl⟩

theorem witness_StepRunsDecodedInstruction :
    let s := start 0xFFFE#16 [0xC3#8, 0x34#8, 0x12#8]
    let d := { s with variant := .checked [⟨0xFFFE, 0x10000, .read⟩] }
    s.intPending = false ∧ decode (s.bytesAtPc 3) = .ok (.jmp 0x1234#16, []) ∧ s.firstDenied (s.fetchReads 3) = none ∧
    d.intPending = false ∧ decode (d.bytesAtPc 3) = .ok (.jmp 0x1234#16, []) ∧
    d.firstDenied (d.fetchReads 3) = some (0x0000#16, .read) := ⟨rfl, rfl, rfl, rfl, rfl, rfl⟩

theorem witness_ExecCompletesOrFaultsAtFirstDenied :
    (∀ x ∈ dataAccesses .xthl busy, busy.allows x.1 x.2 = true) ∧
    readOnly.firstDenied (dataAccesses .xthl readOnly) = some (0x0001#16, .write) :=
  ⟨fun x _ => busy_allows x.1 x.2, rfl⟩

theorem witness_PlainMemoryNeverFails :
    let s := { busy with variant := .plain }
    s.variant = .plain ∧ (s.intPending = true → s.intVector ≤ 0x00FF#16) ∧ State.reset.variant = .plain := by decide

theorem witness_IllegalDecodeOnlyFromLatchedVector :
    let s := { busy with intVector := 0x0100#16 }
    s.intPending = true ∧ s.intVector = 0x0100#16 ∧ 0xFF < (0x0100#16).toNat ∧ ¬ 0xFF < busy.intVector.toNat := by decide

theorem witness_InvalidRangeOnlyFromAddingRange :
    ((0x10000 : Nat) ≤ 0x10000 ∧ (0x10000 : Nat) ≤ 0x10000) ∧ (0x10000 : Nat) < max 0x10001 0 ∧ (0x10000 : Nat) < max 0 0x10001 ∧
    (0xFFFF : Nat) < 0x10000 ∧ closed.variant = .checked [] := by decide

theorem witness_CapabilityTableDecidesAccess :
    let ranges : List PermRange := [⟨0x0000, 0x0001, .none⟩, ⟨0x0001, 0x0002, .read⟩, ⟨0x0002, 0xFFFF, .write⟩, ⟨0x0000, 0x10000, .both⟩]
    { closed with variant := .checked ranges }.variant = .checked ranges ∧
    resolve ranges (0x0000#16).toNat = .none ∧ resolve ranges (0x0001#16).toNat = .read ∧
    resolve ranges (0xFFFE#16).toNat = .write ∧ resolve ranges (0xFFFF#16).toNat = .both := by decide

theorem witness_FirstMatchingRangeWins :
    (∀ q ∈ ([⟨0, 0x4000, .both⟩] : List PermRange), ¬(q.lower ≤ 0x4000 ∧ 0x4000 < q.upper)) ∧ (0x4000 : Nat) ≤ 0x4000 ∧
    (0x4000 : Nat) < 0x4001 ∧ (∀ q ∈ ([⟨0, 0x4000, .both⟩, ⟨0x4000, 0x4001, .none⟩] : List PermRange), ¬(q.lower ≤ 0x4001 ∧ 0x4001 < q.upper)) := by
  decide

theorem witness_MemoryFrame :
    (∃ t, exec .xthl busy = .next t) ∧ 0x0000#16 ∉ storedTo .xthl busy ∧ storedTo .xthl busy = [0x0001#16, 0x0002#16] ∧
    (∃ t, exec .cmpM busy = .next t) ∧ storedTo .cmpM busy = [] := ⟨⟨_, rfl⟩, by decide, rfl, ⟨_, rfl⟩, rfl⟩

theorem witness_FlagWriteFrame :
    (∃ t, exec .inrA busy = .next t) ∧ FlagName.cy ∉ flagsWritten .inrA ∧ (∃ t, exec .nop busy = .next t) ∧
    ∀ f, f ∉ flagsWritten .nop := ⟨⟨_, rfl⟩, by decide, ⟨_, rfl⟩, fun _ => by decide +revert⟩

theorem witness_FlagReadNoninterference :
    (∀ f ∈ flagsRead .rar, (⟨true, true, true, true, false⟩ : Flags).get f = busy.flags.get f) ∧ (∃ t, exec .rar busy = .next t) ∧
    (∀ f ∈ flagsRead .addM, (⟨true, true, true, true, true⟩ : Flags).get f = closed.flags.get f) ∧
    ∃ r, exec .addM closed = .fault r := ⟨by decide, ⟨_, rfl⟩, by decide, ⟨_, rfl⟩⟩

theorem witness_RegisterAndStackPointerFrame :
    (∃ t, exec .popB busy = .next t) ∧ Reg.a ∉ regsWritten .popB ∧ (∃ t, exec .xthl busy = .next t) ∧ writesSp .xthl = false :=
  ⟨⟨_, rfl⟩, by decide, ⟨_, rfl⟩, rfl⟩

theorem witness_LatchAndConfigurationFrame :
    (∃ t, exec .hlt busy = .next t) ∧ callsIo .hlt = false ∧ ∃ t, exec .ei busy = .next t := ⟨⟨_, rfl⟩, rfl, ⟨_, rfl⟩⟩

theorem witness_MarksRecordDataAccesses :
    (∃ t, exec .inrM busy = .next t) ∧ 0x0000#16 ∈ loadedFrom .inrM busy ∧ 0x0000#16 ∈ storedTo .inrM busy ∧ busy.marking = true :=
  ⟨⟨_, rfl⟩, by decide, by decide, rfl⟩

theorem witness_MarksAndTimingNeverAffectExecution :
    (∃ t, step busy = .next t) ∧ ∃ f, step closed = .fault f := ⟨⟨_, rfl⟩, ⟨_, rfl⟩⟩

theorem witness_InterruptEnableGatesAcceptanceOnly :
    (∃ t, exec .ei closed = .next t) ∧ (∃ t, exec .di closed = .next t) ∧ (∃ t, exec .nop closed = .next t) ∧
    (∃ t, step busy = .next t) ∧ (∃ f, step closed = .fault f) ∧
    (∀ v, HostOp.setPc 0x10000 ≠ .requestInterrupt v) ∧ ∃ t, hostStep (.setPc 0x10000) busy = .next t :=
  ⟨⟨_, rfl⟩, ⟨_, rfl⟩, ⟨_, rfl⟩, ⟨_, rfl⟩, ⟨_, rfl⟩, nofun, ⟨_, rfl⟩⟩

theorem witness_LatchWrittenOnlyByRequest :
    (∃ t, step busy = .next t) ∧ (∀ v, HostOp.clear ≠ .requestInterrupt v) ∧ (∃ t, hostStep .clear busy = .next t) ∧
    busy.inte = true ∧ closed.inte = false ∧ closed.intPending = false ∧ (∃ f, step closed = .fault f) ∧
    State.reset.intPending = false ∧ ∃ t, step State.reset = .next t :=
  ⟨⟨_, rfl⟩, nofun, ⟨_, rfl⟩, rfl, rfl, rfl, ⟨_, rfl⟩, rfl, ⟨_, rfl⟩⟩

theorem witness_LatchedOpcodeIsPerformedWithoutFetch :
    let s := (requestInterrupt 0xCD (enabled [0x00#8, 0x02#8])).1
    let d := { s with variant := .checked [⟨0x0100, 0x0101, .read⟩] }
    s.intPending = true ∧ s.intVector = (0xCD#8).setWidth 16 ∧ decode (0xCD#8 :: s.bytesAtPc 2) = .ok (.call 0x0200#16, []) ∧
    s.firstDenied (s.fetchReads 2) = none ∧ (∃ t, exec (.call 0x0200#16) (s.afterFetch 2) = .next t) ∧
    d.intPending = true ∧ decode (0xCD#8 :: d.bytesAtPc 2) = .ok (.call 0x0200#16, []) ∧
    d.firstDenied (d.fetchReads 2) = some (0x0101#16, .read) ∧
    ∃ f, exec (.call 0x0200#16) (({ d with variant := .checked [⟨0x0100, 0x0102, .read⟩] } : State).afterFetch 2) = .fault f :=
  ⟨rfl, rfl, rfl, rfl, ⟨_, rfl⟩, rfl, rfl, rfl, ⟨_, rfl⟩⟩

theorem witness_AcceptedRstEntersHandler : busy.inte = true ∧ busy.pushable = true ∧ busy.sp = 0x0001#16 :=
  ⟨rfl, by simp [State.pushable, busy_allows], rfl⟩

theorem witness_HaltIsIdempotent : (start 0xFFFF#16 [0x76#8]).runEnded = true ∧ (start 0x0000#16 [0x76#8]).runEnded = true := by
  decide

theorem witness_HostSetsPcSpPairsAndLatchByRequest :
    (∃ t, hostStep (.setSp 0x10000) busy = .next t) ∧ (∀ w, HostOp.setSp 0x10000 ≠ .setPc w) ∧
    (∀ v, HostOp.setSp 0x10000 ≠ .requestInterrupt v) := ⟨⟨_, rfl⟩, nofun, nofun⟩

theorem witness_MemoryBusReadsAndWrites :
    State.reset.variant = .plain ∧ busy.mem.wf = true ∧ busy.allows (BitVec.ofNat 16 0x1FFFF) .read = true ∧
    busy.allows (BitVec.ofNat 16 0x1FFFF) .write = true ∧ closed.allows (BitVec.ofNat 16 0x1FFFF) .read = false ∧
    closed.allows (BitVec.ofNat 16 0x1FFFF) .write = false := by decide

theorem witness_HostLoadsClearsAndExportsMemory :
    busy.mem.wf = true ∧ 0x1FFFE % 65536 + [0x1FF, 0].length ≤ 65536 ∧ 65536 < 0x1FFFE % 65536 + [0, 0, 0].length := by decide

theorem witness_StoreIsSeenByNextFetch :
    State.reset.mem.wf = true ∧ State.reset.intPending = false ∧ (∃ t, memWrite State.reset.pc 0xFF#8 State.reset = .ok () t) ∧
    State.reset.allows State.reset.pc .read = true := ⟨rfl, rfl, ⟨_, rfl⟩, rfl⟩

theorem witness_PushThenPopRestores :
    busy.mem.wf = true ∧ busy.sp = 0x0001#16 ∧ busy.allows (busy.sp - 1) .read = true ∧ busy.allows (busy.sp - 1) .write = true ∧
    busy.allows (busy.sp - 2) .read = true ∧ busy.allows (busy.sp - 2) .write = true := by decide

theorem witness_MovThroughMemoryOperand :
    busy.allows busy.hl .read = true ∧ closed.allows closed.hl .read = false ∧ busy.allows busy.hl .write = true ∧
    readOnly.allows readOnly.hl .write = false := by decide

theorem witness_ByteLoadsAndStores :
    busy.allows busy.hl .write = true ∧ readOnly.firstDenied [(readOnly.hl, .write)] = some (0x0000#16, .write) ∧
    busy.allows 0xFFFF#16 .read = true ∧ writeOnly.firstDenied [(0xFFFF#16, .read)] = some (0xFFFF#16, .read) ∧
    busy.allows 0xFFFF#16 .write = true ∧ readOnly.firstDenied [(0xFFFF#16, .write)] = some (0xFFFF#16, .write) := by decide

theorem witness_WordLoadsStoresAndExchange :
    busy.allows 0xFFFF#16 .read = true ∧ busy.allows (0xFFFF#16 + 1) .read = true ∧ busy.allows 0xFFFF#16 .write = true ∧
    busy.allows (0xFFFF#16 + 1) .write = true ∧
    { closed with variant := .checked [⟨0xFFFF, 0x10000, .both⟩] }.firstDenied [(0xFFFF#16, .read), (0xFFFF#16 + 1, .read)] =
      some (0x0000#16, .read) ∧
    { closed with variant := .checked [⟨0xFFFF, 0x10000, .both⟩] }.firstDenied [(0xFFFF#16, .write), (0xFFFF#16 + 1, .write)] =
      some (0x0000#16, .write) := by decide

/-- AddSetsSumAndFlags, CarryAndBorrowArithmetic, LogicalOperations, LogicalImmediatesAndCompare: the operand readable
and not, register and M; an accumulator of 0. -/
theorem witness_AluOperand :
    busy.operandReadable (.reg .a) = true ∧ busy.operandReadable .mem = true ∧ closed.operandReadable (.reg .b) = true ∧
    closed.operandReadable .mem = false ∧ State.reset.regs.a = 0x00#8 := by decide

theorem witness_IncrementAndDecrementByte :
    busy.allows busy.hl .read = true ∧ busy.allows busy.hl .write = true ∧
    readOnly.firstDenied [(readOnly.hl, .read), (readOnly.hl, .write)] = some (0x0000#16, .write) ∧
    writeOnly.firstDenied [(writeOnly.hl, .read), (writeOnly.hl, .write)] = some (0x0000#16, .read) := by decide

theorem witness_DecimalAdjustGivesDecimalSum :
    let s := { State.reset with regs := { State.reset.regs with a := 0x99#8, b := 0x99#8 }, flags := ⟨false, false, false, false, true⟩ }
    s.regs.a = packedDecimal 99 ∧ s.regs.b = packedDecimal 99 ∧ ∃ t u, exec .adcB s = .next t ∧ exec .daa t = .next u :=
  ⟨rfl, rfl, _, _, rfl, rfl⟩

/-- JumpsGoToTheirTarget, ConditionalCallsAndRestarts, ReturnsPopTheirTarget: each condition met and not. -/
theorem witness_Conditions :
    ∀ k : Fin 8, let cond := [Cond.nz, .z, .nc, .c, .po, .pe, .p, .m][k]
      (State.reset.flags.satisfies cond = true ∧ (⟨true, true, true, true, true⟩ : Flags).satisfies cond = false) ∨
      (State.reset.flags.satisfies cond = false ∧ (⟨true, true, true, true, true⟩ : Flags).satisfies cond = true) := by decide

/-- CallPushesReturnAddress, ConditionalCallsAndRestarts, PushAndPopPairs, PushAndPopStatus: the two stores, both allowed across the wrap, the first denied, the second denied. -/
theorem witness_Push :
    busy.pushable = true ∧ busy.allows (busy.sp - 1) .write = true ∧ busy.allows (busy.sp - 2) .write = true ∧
    readOnly.firstDenied [(readOnly.sp - 1, .write), (readOnly.sp - 2, .write)] = some (0x0000#16, .write) ∧
    { busy with variant := .checked [⟨0, 1, .both⟩] }.firstDenied [(busy.sp - 1, .write), (busy.sp - 2, .write)] =
      some (0xFFFF#16, .write) := by decide

/-- ReturnsPopTheirTarget, PushAndPopPairs, PushAndPopStatus: the two reads, both allowed across the wrap, the first denied, the second denied. -/
theorem witness_Pop :
    let s := { busy with sp := 0xFFFF#16 }
    s.poppable = true ∧ s.allows s.sp .read = true ∧ s.allows (s.sp + 1) .read = true ∧
    writeOnly.firstDenied [(writeOnly.sp, .read), (writeOnly.sp + 1, .read)] = some (0xFFFF#16, .read) ∧
    { s with variant := .checked [⟨0xFFFF, 0x10000, .both⟩] }.firstDenied [(s.sp, .read), (s.sp + 1, .read)] =
      some (0x0000#16, .read) := by decide

theorem witness_PushAndPopStatus :
    busy.mem.wf = true ∧ ∃ t u, exec .pushPSW busy = .next t ∧
      exec .popPSW { t with regs := { t.regs with a := 0xFF#8 }, flags := ⟨true, true, true, true, true⟩ } = .next u :=
  ⟨rfl, _, _, rfl, rfl⟩

theorem witness_StackTopExchangeAndSphl :
    busy.firstDenied [(busy.sp, .read), (busy.sp + 1, .read), (busy.sp, .write), (busy.sp + 1, .write)] = none ∧
    readOnly.firstDenied [(readOnly.sp, .read), (readOnly.sp + 1, .read), (readOnly.sp, .write), (readOnly.sp + 1, .write)] =
      some (0x0001#16, .write) := by decide

theorem witness_PortInputAndOutput :
    (start 0#16 []).device = .silent ∧ { State.reset with device := .answering [0x5A#8] }.device = .answering [0x5A#8] ∧
    State.reset.device = .answering [] := by decide

theorem witness_EnableHaltAndNoOperation : (1#3 : BitVec 3) ≠ 0#3 ∧ (7#3 : BitVec 3) ≠ 0#3 := by decide

theorem witness_PerformedOpcodeReturnsItsFigure :
    (hasCondition 0xFD#8 = false ∧ ∃ t, executeOpcode 0xFD#8 State.reset = .next t) ∧
    (∃ t, executeOpcode (0b11#2 ++ Cond.m.field ++ 0b000#3) State.reset = .next t) ∧
    (∃ t, executeOpcode (0b11#2 ++ Cond.nz.field ++ 0b100#3) State.reset = .next t) ∧
    State.reset.flags.satisfies .m = false ∧ State.reset.flags.satisfies .nz = true ∧
    ∃ t, executeOpcode (0b11#2 ++ Cond.m.field ++ 0b010#3) State.reset = .next t :=
  ⟨⟨rfl, _, rfl⟩, ⟨_, rfl⟩, ⟨_, rfl⟩, rfl, rfl, _, rfl⟩

end Sys2Proof.Tests
end

section
/-! The register file as the host sees it (10_state.md R22, R23): access by index, a written register and its
neighbours, pairs as views of two registers. -/

namespace Sys2Proof.Machine

/-! ### Access by index (R22) -/

theorem hostGetReg_of_reg {i : Fin 8} {r : Reg} (h : regMOfIndex i = .reg r) (s : State) :
    hostGetReg i s = .ok (s.getReg r) s := by rw [hostGetReg, h, reg8Read]

theorem hostGetReg_of_mem {i : Fin 8} (h : regMOfIndex i = .mem) (s : State) :
    hostGetReg i s = memRead s.hl s := by rw [hostGetReg, h, reg8Read]

theorem hostSetReg_of_reg {i : Fin 8} {r : Reg} (h : regMOfIndex i = .reg r) (v : Nat) (s : State) :
    hostSetReg i v s = .ok () (s.setReg r (BitVec.ofNat 8 v)) := by rw [hostSetReg, h, reg8Write]

theorem hostSetReg_of_mem {i : Fin 8} (h : regMOfIndex i = .mem) (v : Nat) (s : State) :
    hostSetReg i v s = memWrite s.hl (BitVec.ofNat 8 v) s := by rw [hostSetReg, h, reg8Write]

theorem Regs.get_set (x : Regs) (r q : Reg) (v : Byte) : (x.set r v).get q = if q = r then v else x.get q := by
  split
  case isTrue h => rw [h, Regs.get_set_same]
  case isFalse h => exact Regs.get_set_of_ne x r q v h

/-! ### Pairs as views, the high register first (R23) -/

theorem State.getPair_bc (s : State) : s.getPair .bc = s.regs.b ++ s.regs.c := rfl
theorem State.getPair_de (s : State) : s.getPair .de = s.regs.d ++ s.regs.e := rfl
theorem State.getPair_hl (s : State) : s.getPair .hl = s.regs.h ++ s.regs.l := rfl

theorem State.setPair_bc_regs (s : State) (w : Word) :
    (s.setPair .bc w).regs = { s.regs with b := w.extractLsb' 8 8, c := w.extractLsb' 0 8 } := rfl
theorem State.setPair_de_regs (s : State) (w : Word) :
    (s.setPair .de w).regs = { s.regs with d := w.extractLsb' 8 8, e := w.extractLsb' 0 8 } := rfl
theorem State.setPair_hl_regs (s : State) (w : Word) :
    (s.setPair .hl w).regs = { s.regs with h := w.extractLsb' 8 8, l := w.extractLsb' 0 8 } := rfl

/-- Settles O29: index by index through `regMOfIndex`, then by the read-after-write rules of registers and pairs. -/
theorem registerFileAccess : Obligations.RegisterFileAccess := by
  refine ⟨fun s => ?get, fun s v => ?set, Regs.get_set, fun s => ⟨s.getPair_bc, s.getPair_de, s.getPair_hl⟩,
    fun s w => ⟨fun p => s.getPair_setPair p w, s.setPair_bc_regs w, s.setPair_de_regs w, s.setPair_hl_regs w⟩⟩
  case get =>
    have get {i : Fin 8} (r : Reg) (h : regMOfIndex i = .reg r) := hostGetReg_of_reg h s
    exact ⟨get .b rfl, get .c rfl, get .d rfl, get .e rfl, get .h rfl, get .l rfl, hostGetReg_of_mem rfl s, get .a rfl⟩
  case set =>
    have set {i : Fin 8} (r : Reg) (h : regMOfIndex i = .reg r) := hostSetReg_of_reg h v s
    exact ⟨set .b rfl, set .c rfl, set .d rfl, set .e rfl, set .h rfl, set .l rfl, hostSetReg_of_mem rfl v s, set .a rfl⟩

end Sys2Proof.Machine
end

section
/-! The memory bus as instructions and the host see it (20_memory.md R64 to R68, R81): what an access answers, by the
bound variant and the resolved capability, and that under the plain variant nothing fails. -/

namespace Sys2Proof.Machine

/-! ### What is allowed, and what an access then answers (R64 to R68) -/

theorem State.allows_of_plain {s : State} (h : s.variant = .plain) (a : Word) (dir : Direction) :
    s.allows a dir = true := by simp only [State.allows, h]

theorem State.allows_of_resolve {s : State} {ranges : List PermRange} {a : Word} {cap : Cap}
    (hv : s.variant = .checked ranges) (hr : resolve ranges a.toNat = cap) (dir : Direction) :
    s.allows a dir = cap.permits dir := by simp only [State.allows, hv, hr]

theorem memRead_of_allowed {s : State} {a : Word} (h : s.allows a .read = true) :
    memRead a s = .ok (s.byteAt a) (s.afterRead a) := if_pos h

theorem memRead_of_denied {s : State} {a : Word} (h : s.allows a .read = false) :
    memRead a s = .fault (.accessViolation a .read) := if_neg (Bool.eq_false_iff.mp h)

theorem memWrite_of_allowed {s : State} {a : Word} (v : Byte) (h : s.allows a .write = true) :
    memWrite a v s = .ok () (s.afterWrite a v) := if_pos h

theorem memWrite_of_denied {s : State} {a : Word} (v : Byte) (h : s.allows a .write = false) :
    memWrite a v s = .fault (.accessViolation a .write) := if_neg (Bool.eq_false_iff.mp h)

/-- Settles O15: under the checked variant what is allowed is the capability's row of `Cap.permits`. -/
theorem capabilityTableDecidesAccess : Obligations.CapabilityTableDecidesAccess := by
  intro s ranges a v hv
  have allows {cap : Cap} (hr : resolve ranges a.toNat = cap) (dir : Direction) := State.allows_of_resolve hv hr dir
  refine ⟨fun hr => ?none, fun hr => ?read, fun hr => ?write, fun hr => ?both⟩
  case none => exact ⟨memRead_of_denied (allows hr .read), memWrite_of_denied v (allows hr .write)⟩
  case read => exact ⟨memRead_of_allowed (allows hr .read), memWrite_of_denied v (allows hr .write)⟩
  case write => exact ⟨memRead_of_denied (allows hr .read), memWrite_of_allowed v (allows hr .write)⟩
  case both => exact ⟨memRead_of_allowed (allows hr .read), memWrite_of_allowed v (allows hr .write)⟩

/-! ### Nothing fails under the plain variant (R66) -/

/-- No instruction changes the memory variant. -/
theorem nextState_variant (i : Instr) (s : State) : (nextState i s).variant = s.variant := by
  unfold nextState
  split <;> rfl

theorem exec_of_plain {s : State} (h : s.variant = .plain) (i : Instr) : exec i s = .next (nextState i s) := by
  rw [exec_eq, State.firstDenied_plain h, answer_none]

theorem executeOpcode_of_plain {s : State} (h : s.variant = .plain) (op : Byte) :
    ∃ t, executeOpcode op s = .next t ∧ t.variant = .plain := by
  have hf : (s.afterFetch (operandCount op)).variant = .plain := by rw [State.afterFetch_variant, h]
  rw [executeOpcode_eq, State.firstDenied_plain h]
  exact ⟨_, exec_of_plain hf _, (nextState_variant _ _).trans hf⟩

theorem fetchExecute_of_plain {s : State} (h : s.variant = .plain) :
    ∃ t, fetchExecute s = .next t ∧ t.variant = .plain := by
  rw [fetchExecute_eq, if_pos (State.allows_of_plain h s.pc .read)]
  exact executeOpcode_of_plain (by rw [State.setPc_variant, State.afterRead_variant, h]) _

theorem serviceInterrupt_of_plain {s : State} (h : s.variant = .plain) (hle : s.intVector ≤ 0x00FF#16) :
    ∃ t, serviceInterrupt s = .next t ∧ t.variant = .plain := by
  obtain ⟨t, ht, hv⟩ := executeOpcode_of_plain h (lowByte s.intVector)
  rw [serviceInterrupt_eq, if_neg (BitVec.not_lt.mpr hle), ht]
  exact ⟨t.drainLatch, rfl, hv⟩

/-- Settles O12: with no access denied, the fetched and the injected opcode both complete; only the latched vector's
range is left to fail. -/
theorem plainMemoryNeverFails : Obligations.PlainMemoryNeverFails := by
  intro s h
  refine ⟨fun a => memRead_of_allowed (State.allows_of_plain h a .read),
    fun a v => memWrite_of_allowed v (State.allows_of_plain h a .write), fun hvec => ?_⟩
  cases hp : s.intPending with
  | false => rw [step_fetched hp]; exact fetchExecute_of_plain h
  | true => rw [step_injected hp]; exact serviceInterrupt_of_plain h (hvec hp)

/-! ### The host's raw accesses (R81) -/

theorem Word.ofNat_add_addressSpace (addr : Nat) : BitVec.ofNat 16 (addr + 0x10000) = BitVec.ofNat 16 addr := by
  apply BitVec.eq_of_toNat_eq
  rw [BitVec.toNat_ofNat, BitVec.toNat_ofNat]
  omega

theorem hostRead_add_addressSpace (addr : Nat) (s : State) : hostRead (addr + 0x10000) s = hostRead addr s := by
  rw [hostRead, hostRead, Word.ofNat_add_addressSpace]

theorem hostWrite_add_addressSpace (addr v : Nat) (s : State) : hostWrite (addr + 0x10000) v s = hostWrite addr v s := by
  rw [hostWrite, hostWrite, Word.ofNat_add_addressSpace]

/-- A write marks its address if the marking layer is present, and no other. -/
theorem State.afterWrite_marked (s : State) (a : Word) (v : Byte) (b : Nat) :
    (s.afterWrite a v).writeMarks.marked b = (s.writeMarks.marked b || (s.marking && b == a.toNat)) := by
  unfold State.afterWrite
  cases hm : s.marking with
  | false => simp
  | true => simpa using Marks.marked_insert s.writeMarks a.toNat b

/-- A write changes memory and the write marks only. -/
theorem State.afterWrite_frame (s : State) (a : Word) (v : Byte) :
    { s.afterWrite a v with mem := s.mem, writeMarks := s.writeMarks } = s := rfl

/-- Settles O31: the host's access is the bus access at the reduced address, and `afterRead` and `afterWrite` say what
it does. -/
theorem memoryBusReadsAndWrites : Obligations.MemoryBusReadsAndWrites := by
  rintro s addr v a rfl
  refine ⟨fun h => ⟨State.allows_of_plain h _ _, State.allows_of_plain h _ _⟩, memRead_of_allowed, memRead_of_denied,
    Marks.marked_insert s.readMarks _, fun hwf ha => ?write, memWrite_of_denied _,
    hostRead_add_addressSpace addr s, hostWrite_add_addressSpace addr v s⟩
  case write =>
    exact ⟨_, memWrite_of_allowed _ ha, State.byteAt_afterWrite_same _ _ hwf,
      fun _ => State.byteAt_afterWrite_of_ne s _, State.afterWrite_marked s _ _,
      State.afterWrite_frame s _ _⟩

end Sys2Proof.Machine
end

section
/-! Every opcode byte performs an instruction (30_encoding.md R114): what `Execute(op)` answers over all its accesses,
operand fetches and data accesses alike, and so what can stop it. -/

namespace Sys2Proof.Machine

/-- The accesses of `Execute(op)` in order (R106, R107): the operand fetches, then the instruction's data accesses. -/
def opcodeAccesses (op : Byte) (s : State) : List (Word × Direction) :=
  s.fetchReads (operandCount op) ++ dataAccesses (s.instrAt op) (s.afterFetch (operandCount op))

/-- `Execute(op)` is decided by its accesses alone: the opcode map names an instruction for every byte. -/
theorem executeOpcode_eq_answer (op : Byte) (s : State) :
    executeOpcode op s =
      answer (s.firstDenied (opcodeAccesses op s)) (nextState (s.instrAt op) (s.afterFetch (operandCount op))) := by
  rw [executeOpcode_eq, opcodeAccesses, State.firstDenied_append]
  cases s.firstDenied (s.fetchReads (operandCount op)) with
  | none =>
    have hv := s.afterFetch_variant (operandCount op)
    simp only [exec_eq, State.firstDenied_congr hv, Option.none_or]
  | some x => rfl

theorem executeOpcode_of_allowed {s : State} (h : ∀ a dir, s.allows a dir = true) (op : Byte) :
    ∃ t, executeOpcode op s = .next t :=
  ⟨_, (executeOpcode_eq_answer op s).trans (answer_of_allowed fun x _ => h x.1 x.2)⟩

/-- The only fault of `Execute(op)` is a denied access. -/
theorem executeOpcode_fault {op : Byte} {s : State} {f : Fault} (h : executeOpcode op s = .fault f) :
    ∃ a dir, f = .accessViolation a dir := by
  rw [executeOpcode_eq_answer, answer_eq_fault] at h
  obtain ⟨x, -, hf⟩ := h
  exact ⟨x.1, x.2, hf⟩

/-- The only fault of a fetched step is a denied access: of the opcode byte, or of `Execute(op)`. -/
theorem fetchExecute_fault {s : State} {f : Fault} (h : fetchExecute s = .fault f) :
    ∃ a dir, f = .accessViolation a dir := by
  rw [fetchExecute_eq] at h
  split at h
  case isTrue => exact executeOpcode_fault h
  case isFalse => exact ⟨s.pc, .read, (Host.Outcome.fault.inj h).symm⟩

/-- Settles O7: `Execute(op)` completes when its accesses are allowed, and no fault of it or of a fetched step is
anything but an access violation. -/
theorem everyOpcodeBytePerforms : Obligations.EveryOpcodeBytePerforms := by
  refine ⟨fun op s h => executeOpcode_of_allowed h op, fun op s v h => ?execute, fun s v hp h => ?fetched⟩
  case execute =>
    obtain ⟨a, dir, hf⟩ := executeOpcode_fault h
    cases hf
  case fetched =>
    rw [step_fetched hp] at h
    obtain ⟨a, dir, hf⟩ := fetchExecute_fault h
    cases hf

end Sys2Proof.Machine
end

section
/-! The host's moves between steps (70_reset_and_hazards.md R366 to R371) and the control fields: which moves touch the
flags, `INTE`, the latch fields and `pc`, and that no move depends on the flags. -/

namespace Sys2Proof.Machine

/-! ### What a move leaves unchanged -/

/-- `t` has the flags, `INTE`, the latch fields and `pc` of `s`. -/
structure SameControl (s t : State) : Prop where
  flags : t.flags = s.flags
  inte : t.inte = s.inte
  intPending : t.intPending = s.intPending
  intVector : t.intVector = s.intVector
  pc : t.pc = s.pc

theorem sameControl_setPair (s : State) (p : RegPair) (w : Word) : SameControl s (s.setPair p w) := by
  cases p <;> exact ⟨rfl, rfl, rfl, rfl, rfl⟩

theorem sameControl_place (s : State) (a : Word) (bytes : List Byte) : SameControl s (s.place a bytes) := by
  obtain ⟨m, hm, -⟩ := State.place_frame bytes s a
  rw [hm]
  exact ⟨rfl, rfl, rfl, rfl, rfl⟩

/-- Only setting `pc` and an accepted request write a control field, each its own. -/
theorem hostStep_control_cases {op : HostOp} {s t : State} (h : hostStep op s = .next t) :
    SameControl s t ∨
    (∃ w, op = .setPc w ∧ t = s.setPc (BitVec.ofNat 16 w)) ∨
    (∃ v, op = .requestInterrupt v ∧ t = { s with intVector := BitVec.ofNat 16 v, intPending := true }) := by
  obtain rfl | ⟨a, -, rfl⟩ | ⟨a, v, -, rfl⟩ | ⟨r, v, rfl⟩ | ⟨p, w, rfl⟩ | ⟨w, hop, ht⟩ | ⟨w, rfl⟩ |
    ⟨a, bytes, rfl⟩ | rfl | rfl | ⟨ranges, r, -, -, rfl⟩ | ⟨v, hop, -, ht⟩ := hostStep_cases h
  · exact .inl ⟨rfl, rfl, rfl, rfl, rfl⟩
  · exact .inl ⟨rfl, rfl, rfl, rfl, rfl⟩
  · exact .inl ⟨rfl, rfl, rfl, rfl, rfl⟩
  · exact .inl ⟨rfl, rfl, rfl, rfl, rfl⟩
  · exact .inl (sameControl_setPair s p w)
  · exact .inr (.inl ⟨w, hop, ht⟩)
  · exact .inl ⟨rfl, rfl, rfl, rfl, rfl⟩
  · exact .inl (sameControl_place s a bytes)
  · exact .inl ⟨rfl, rfl, rfl, rfl, rfl⟩
  · exact .inl ⟨rfl, rfl, rfl, rfl, rfl⟩
  · exact .inl ⟨rfl, rfl, rfl, rfl, rfl⟩
  · exact .inr (.inr ⟨v, hop, ht⟩)

theorem hostStep_flags_inte {op : HostOp} {s t : State} (h : hostStep op s = .next t) :
    t.flags = s.flags ∧ t.inte = s.inte := by
  obtain hc | ⟨w, -, rfl⟩ | ⟨v, -, rfl⟩ := hostStep_control_cases h
  · exact ⟨hc.flags, hc.inte⟩
  · exact ⟨rfl, rfl⟩
  · exact ⟨rfl, rfl⟩

theorem hostStep_latch {op : HostOp} {s t : State} (hop : ∀ v, op ≠ .requestInterrupt v) (h : hostStep op s = .next t) :
    t.intPending = s.intPending ∧ t.intVector = s.intVector := by
  obtain hc | ⟨w, -, rfl⟩ | ⟨v, hv, -⟩ := hostStep_control_cases h
  · exact ⟨hc.intPending, hc.intVector⟩
  · exact ⟨rfl, rfl⟩
  · exact absurd hv (hop v)

theorem hostStep_pc {op : HostOp} {s t : State} (hop : ∀ w, op ≠ .setPc w) (h : hostStep op s = .next t) :
    t.pc = s.pc := by
  obtain hc | ⟨w, hw, -⟩ | ⟨v, -, rfl⟩ := hostStep_control_cases h
  · exact hc.pc
  · exact absurd hw (hop w)
  · rfl

/-! ### No move depends on the flags -/

/-- The answer with its next state, if it is one, changed by `f`. -/
def mapNext (f : State → State) : Result → Result
  | .next t => .next (f t)
  | .fault r => .fault r
  | .refused r => .refused r

theorem mapNext_ite (f : State → State) (c : Prop) [Decidable c] (x y : Result) :
    mapNext f (if c then x else y) = if c then mapNext f x else mapNext f y := apply_ite (mapNext f) c x y

theorem State.place_setFlags (bytes : List Byte) (s : State) (a : Word) (g : Flags) :
    (s.setFlags g).place a bytes = (s.place a bytes).setFlags g := by
  induction bytes generalizing s a with
  | nil => rfl
  | cons v rest ih => exact ih { s with mem := s.mem.write a.toNat v } (a + 1)

theorem requestInterrupt_setFlags (v : Nat) (s : State) (g : Flags) :
    (requestInterrupt v (s.setFlags g)).1 = (requestInterrupt v s).1.setFlags g := by
  rw [requestInterrupt, requestInterrupt, State.setFlags_inte]
  cases s.inte <;> rfl

/-- Every move commutes with replacing the flags, its faults and refusals included. -/
theorem hostStep_setFlags (op : HostOp) (s : State) (g : Flags) :
    hostStep op (s.setFlags g) = mapNext (·.setFlags g) (hostStep op s) := by
  cases op with
  | getReg i =>
    rw [hostStep_getReg, hostStep_getReg]
    cases regMOfIndex i with
    | reg r => rfl
    | mem => simp only [mapNext_ite]; rfl
  | setReg i v =>
    rw [hostStep_setReg, hostStep_setReg]
    cases regMOfIndex i with
    | reg r => rfl
    | mem => simp only [mapNext_ite]; rfl
  | setPair p w =>
    simp only [hostStep, hostSetPair]
    cases pairOfIndex p <;> rfl
  | setPc w => rfl
  | setSp w => rfl
  | bulkLoad bytes start =>
    simp only [hostStep, bulkLoad, State.place_setFlags, mapNext_ite]
    rfl
  | clear => rfl
  | read a =>
    rw [hostStep_read, hostStep_read, mapNext_ite]
    rfl
  | write a v =>
    rw [hostStep_write, hostStep_write, mapNext_ite]
    rfl
  | resetMarks => rfl
  | addRange lower upper cap =>
    simp only [hostStep, addRange, State.setFlags_variant, mapNext_ite]
    cases s.variant <;> rfl
  | requestInterrupt v => exact congrArg Host.Outcome.next (requestInterrupt_setFlags v s g)

/-- Settles O30: the setters by definition, the frame by what each move can do to a control field, the independence by
commuting with `setFlags`. -/
theorem hostSetsPcSpPairsAndLatchByRequest : Obligations.HostSetsPcSpPairsAndLatchByRequest := by
  refine ⟨fun s w => ?setters, fun _ _ _ h => hostStep_flags_inte h, fun _ _ _ hop h => hostStep_latch hop h,
    fun _ _ _ hop h => hostStep_pc hop h, fun op s t g h => ?independent⟩
  case setters => exact ⟨rfl, rfl, rfl, rfl, rfl, rfl, rfl, rfl, rfl, rfl⟩
  case independent =>
    calc hostStep op (s.setFlags g)
      _ = mapNext (·.setFlags g) (hostStep op s) := hostStep_setFlags op s g
      _ = .next (t.setFlags g) := by rw [h, mapNext]

end Sys2Proof.Machine
end

section
/-! What an instruction does to memory, to the access marks and to the rest of the core's setting, said once for all
instructions over `instr_by_family` (20_memory.md R64, R65, R70, R73; 10_state.md R37, R39). The invariant and the
frames below are read off it. -/

namespace Sys2Proof.Machine

/-! ### An IN changes A, the event list and the device's own bookkeeping (R74) -/

@[simp] theorem ioIn_flags (port : Byte) (s : State) : (ioIn port s).2.flags = s.flags := by
  obtain ⟨dev, n, h⟩ := ioIn_frame port s; rw [h]
@[simp] theorem ioIn_regs (port : Byte) (s : State) : (ioIn port s).2.regs = s.regs := by
  obtain ⟨dev, n, h⟩ := ioIn_frame port s; rw [h]
@[simp] theorem ioIn_sp (port : Byte) (s : State) : (ioIn port s).2.sp = s.sp := by
  obtain ⟨dev, n, h⟩ := ioIn_frame port s; rw [h]
@[simp] theorem ioIn_inte (port : Byte) (s : State) : (ioIn port s).2.inte = s.inte := by
  obtain ⟨dev, n, h⟩ := ioIn_frame port s; rw [h]
@[simp] theorem ioIn_intPending (port : Byte) (s : State) : (ioIn port s).2.intPending = s.intPending := by
  obtain ⟨dev, n, h⟩ := ioIn_frame port s; rw [h]
@[simp] theorem ioIn_intVector (port : Byte) (s : State) : (ioIn port s).2.intVector = s.intVector := by
  obtain ⟨dev, n, h⟩ := ioIn_frame port s; rw [h]
@[simp] theorem ioIn_mem (port : Byte) (s : State) : (ioIn port s).2.mem = s.mem := by
  obtain ⟨dev, n, h⟩ := ioIn_frame port s; rw [h]
@[simp] theorem ioIn_readMarks (port : Byte) (s : State) : (ioIn port s).2.readMarks = s.readMarks := by
  obtain ⟨dev, n, h⟩ := ioIn_frame port s; rw [h]
@[simp] theorem ioIn_writeMarks (port : Byte) (s : State) : (ioIn port s).2.writeMarks = s.writeMarks := by
  obtain ⟨dev, n, h⟩ := ioIn_frame port s; rw [h]
@[simp] theorem ioIn_marking (port : Byte) (s : State) : (ioIn port s).2.marking = s.marking := by
  obtain ⟨dev, n, h⟩ := ioIn_frame port s; rw [h]
@[simp] theorem ioIn_figures (port : Byte) (s : State) : (ioIn port s).2.figures = s.figures := by
  obtain ⟨dev, n, h⟩ := ioIn_frame port s; rw [h]
@[simp] theorem ioIn_tJccNotTaken (port : Byte) (s : State) : (ioIn port s).2.tJccNotTaken = s.tJccNotTaken := by
  obtain ⟨dev, n, h⟩ := ioIn_frame port s; rw [h]

/-! ### Reads, then stores -/

/-- The state after reads at `rs`. -/
def State.afterReads (s : State) (rs : List Word) : State := rs.foldl State.afterRead s

/-- The state after the stores `ws`. -/
def State.afterStores (s : State) (ws : List (Word × Byte)) : State := ws.foldl (fun t x => t.afterWrite x.1 x.2) s

/-- The state after reads and then stores (R73: reads before writes), all performed. -/
def State.afterBus (s : State) (rs : List Word) (ws : List (Word × Byte)) : State := (s.afterReads rs).afterStores ws

@[simp] theorem State.afterReads_mem (s : State) (rs : List Word) : (s.afterReads rs).mem = s.mem := by
  induction rs generalizing s with
  | nil => rfl
  | cons a rest ih => exact ih _
@[simp] theorem State.afterReads_writeMarks (s : State) (rs : List Word) : (s.afterReads rs).writeMarks = s.writeMarks := by
  induction rs generalizing s with
  | nil => rfl
  | cons a rest ih => exact ih _
@[simp] theorem State.afterReads_marking (s : State) (rs : List Word) : (s.afterReads rs).marking = s.marking := by
  induction rs generalizing s with
  | nil => rfl
  | cons a rest ih => exact ih _
@[simp] theorem State.afterStores_readMarks (s : State) (ws : List (Word × Byte)) :
    (s.afterStores ws).readMarks = s.readMarks := by
  induction ws generalizing s with
  | nil => rfl
  | cons x rest ih => exact ih _
@[simp] theorem State.afterStores_marking (s : State) (ws : List (Word × Byte)) : (s.afterStores ws).marking = s.marking := by
  induction ws generalizing s with
  | nil => rfl
  | cons x rest ih => exact ih _

/-- `t` has the memory and the marks of `u`. -/
structure SameBus (t u : State) : Prop where
  mem : t.mem = u.mem
  readMarks : t.readMarks = u.readMarks
  writeMarks : t.writeMarks = u.writeMarks

/-- As far as memory and marks go, `nextState i s` is `s` after reads at `loadedFrom i s` and stores of some bytes at
`storedTo i s`. -/
def BusEffect (i : Instr) (s : State) : Prop :=
  ∃ stores, stores.map Prod.fst = storedTo i s ∧ SameBus (nextState i s) (s.afterBus (loadedFrom i s) stores)

theorem busEffect_of {i : Instr} {s : State} {rs : List Word} {stores : List (Word × Byte)}
    (hr : loadedFrom i s = rs) (hw : storedTo i s = stores.map Prod.fst)
    (h : SameBus (nextState i s) (s.afterBus rs stores)) : BusEffect i s := ⟨stores, hw.symm, hr ▸ h⟩

variable {i : Instr} {s t : State}

theorem busEffect_none (hr : loadedFrom i s = []) (hw : storedTo i s = []) (h : SameBus (nextState i s) s) :
    BusEffect i s := busEffect_of (stores := []) hr hw h

theorem busEffect_read {a : Word} (hr : loadedFrom i s = [a]) (hw : storedTo i s = []) (ht : nextState i s = t)
    (h : SameBus t (s.afterRead a)) : BusEffect i s := busEffect_of (stores := []) hr hw (ht ▸ h)

theorem busEffect_read16 {a : Word} (hr : loadedFrom i s = [a, a + 1]) (hw : storedTo i s = [])
    (ht : nextState i s = t) (h : SameBus t (s.afterRead16 a)) : BusEffect i s :=
  busEffect_of (stores := []) hr hw (ht ▸ h)

theorem busEffect_write {a : Word} {v : Byte} (hr : loadedFrom i s = []) (hw : storedTo i s = [a])
    (ht : nextState i s = t) (h : SameBus t (s.afterWrite a v)) : BusEffect i s :=
  busEffect_of (stores := [(a, v)]) hr hw (ht ▸ h)

theorem busEffect_write16 {a w : Word} (hr : loadedFrom i s = []) (hw : storedTo i s = [a, a + 1])
    (ht : nextState i s = t) (h : SameBus t (s.afterWrite16 a w)) : BusEffect i s :=
  busEffect_of (stores := [(a, lowByte w), (a + 1, highByte w)]) hr hw (ht ▸ h)

theorem busEffect_push {w : Word} (hr : loadedFrom i s = []) (hw : storedTo i s = [s.sp - 1, s.sp - 2])
    (ht : nextState i s = t) (h : SameBus t (s.afterPush w)) : BusEffect i s :=
  busEffect_of (stores := [(s.sp - 1, highByte w), (s.sp - 2, lowByte w)]) hr hw
    (ht ▸ ⟨h.mem, h.readMarks, h.writeMarks⟩)

/-- Read a byte, then store at the same address: INR M and DCR M. -/
theorem busEffect_modify {a : Word} {v : Byte} (hr : loadedFrom i s = [a]) (hw : storedTo i s = [a])
    (ht : nextState i s = t) (h : SameBus t ((s.afterRead a).afterWrite a v)) : BusEffect i s :=
  busEffect_of (stores := [(a, v)]) hr hw (ht ▸ h)

/-- Every instruction reads its `loadedFrom` and stores to its `storedTo`, and does nothing else on the bus. -/
theorem busEffect_nextState (i : Instr) (s : State) : BusEffect i s := by
  induction i using instr_by_family
  case h_movFromMOf dst =>
    exact busEffect_read (loadedFrom_movFromMOf dst s) (storedTo_movFromMOf dst s) (nextState_movFromMOf dst s) ⟨rfl, rfl, rfl⟩
  case h_lda a => exact busEffect_read (loadedFrom_lda a s) (storedTo_lda a s) (nextState_lda a s) ⟨rfl, rfl, rfl⟩
  case h_ldaxOf p =>
    exact busEffect_read (loadedFrom_ldaxOf p s) (storedTo_ldaxOf p s) (nextState_ldaxOf p s) ⟨rfl, rfl, rfl⟩
  case h_aluOf op r =>
    cases r with
    | reg r => exact busEffect_none (by simp [operandReads]) (by simp) ⟨by simp, by simp [State.afterOperand], by simp⟩
    | mem =>
      exact busEffect_read (loadedFrom_aluOf op .mem s) (storedTo_aluOf op .mem s) (nextState_aluOf op .mem s)
        ⟨by simp, by simp [State.afterOperand], by simp⟩
  case h_movToMOf r =>
    exact busEffect_write (loadedFrom_movToMOf r s) (storedTo_movToMOf r s) (nextState_movToMOf r s) ⟨rfl, rfl, rfl⟩
  case h_mviM v => exact busEffect_write (loadedFrom_mviM v s) (storedTo_mviM v s) (nextState_mviM v s) ⟨rfl, rfl, rfl⟩
  case h_sta a => exact busEffect_write (loadedFrom_sta a s) (storedTo_sta a s) (nextState_sta a s) ⟨rfl, rfl, rfl⟩
  case h_staxOf p =>
    exact busEffect_write (loadedFrom_staxOf p s) (storedTo_staxOf p s) (nextState_staxOf p s) ⟨rfl, rfl, rfl⟩
  case h_inrM => exact busEffect_modify (loadedFrom_inrM s) (storedTo_inrM s) (nextState_inrM s) ⟨rfl, rfl, rfl⟩
  case h_dcrM => exact busEffect_modify (loadedFrom_dcrM s) (storedTo_dcrM s) (nextState_dcrM s) ⟨rfl, rfl, rfl⟩
  case h_lhld a => exact busEffect_read16 (loadedFrom_lhld a s) (storedTo_lhld a s) (nextState_lhld a s) ⟨rfl, rfl, rfl⟩
  case h_shld a => exact busEffect_write16 (loadedFrom_shld a s) (storedTo_shld a s) (nextState_shld a s) ⟨rfl, rfl, rfl⟩
  case h_ret => exact busEffect_read16 (loadedFrom_ret s) (storedTo_ret s) (nextState_ret s) ⟨rfl, rfl, rfl⟩
  case h_retAlias =>
    exact busEffect_read16 (loadedFrom_retAlias s) (storedTo_retAlias s) (nextState_retAlias s) ⟨rfl, rfl, rfl⟩
  case h_rccOf cond =>
    by_cases h : s.flags.satisfies cond
    · exact busEffect_read16 ((loadedFrom_rccOf cond s).trans (if_pos h)) (storedTo_rccOf cond s)
        ((nextState_rccOf cond s).trans (if_pos h)) ⟨rfl, rfl, rfl⟩
    · exact busEffect_none (by simp [h]) (by simp) ⟨by simp [h], by simp [h], by simp [h]⟩
  case h_popOf p =>
    exact busEffect_read16 (loadedFrom_popOf p s) (storedTo_popOf p s) (nextState_popOf p s)
      ⟨by simp, by simp [State.afterPop], by simp⟩
  case h_popPSW => exact busEffect_read16 (loadedFrom_popPSW s) (storedTo_popPSW s) (nextState_popPSW s) ⟨rfl, rfl, rfl⟩
  case h_call a => exact busEffect_push (loadedFrom_call a s) (storedTo_call a s) (nextState_call a s) ⟨rfl, rfl, rfl⟩
  case h_callAlias pp a =>
    exact busEffect_push (loadedFrom_callAlias pp a s) (storedTo_callAlias pp a s) (nextState_callAlias pp a s) ⟨rfl, rfl, rfl⟩
  case h_cccOf cond a =>
    by_cases h : s.flags.satisfies cond
    · exact busEffect_push (loadedFrom_cccOf cond a s) ((storedTo_cccOf cond a s).trans (if_pos h))
        ((nextState_cccOf cond a s).trans (if_pos h)) ⟨rfl, rfl, rfl⟩
    · exact busEffect_none (by simp) (by simp [h]) ⟨by simp [h], by simp [h], by simp [h]⟩
  case h_rstOf n => exact busEffect_push (loadedFrom_rstOf n s) (storedTo_rstOf n s) (nextState_rstOf n s) ⟨rfl, rfl, rfl⟩
  case h_pushOf p =>
    exact busEffect_push (loadedFrom_pushOf p s) (storedTo_pushOf p s) (nextState_pushOf p s) ⟨rfl, rfl, rfl⟩
  case h_pushPSW => exact busEffect_push (loadedFrom_pushPSW s) (storedTo_pushPSW s) (nextState_pushPSW s) ⟨rfl, rfl, rfl⟩
  case h_xthl =>
    exact busEffect_of (stores := [(s.sp, lowByte s.hl), (s.sp + 1, highByte s.hl)]) (loadedFrom_xthl s) (storedTo_xthl s)
      (nextState_xthl s ▸ ⟨rfl, rfl, rfl⟩)
  case h_jccOf cond a =>
    by_cases h : s.flags.satisfies cond <;>
      exact busEffect_none (by simp) (by simp) ⟨by simp [h], by simp [h], by simp [h]⟩
  all_goals exact busEffect_none (by simp) (by simp) ⟨by simp, by simp, by simp⟩

/-! ### What no instruction changes (R37, R39, 10_state.md R33) -/

/-- `t` has the latch, the marking layer and the figures of `s`. -/
structure SameSetting (t s : State) : Prop where
  intPending : t.intPending = s.intPending
  intVector : t.intVector = s.intVector
  marking : t.marking = s.marking
  figures : t.figures = s.figures
  tJccNotTaken : t.tJccNotTaken = s.tJccNotTaken

/-- Every instruction keeps the latch, the marking layer and the figures. -/
theorem sameSetting_nextState (i : Instr) (s : State) : SameSetting (nextState i s) s := by
  induction i using instr_by_family
  case h_jccOf cond a =>
    by_cases h : s.flags.satisfies cond <;> exact ⟨by simp [h], by simp [h], by simp [h], by simp [h], by simp [h]⟩
  case h_cccOf cond a =>
    by_cases h : s.flags.satisfies cond <;> exact ⟨by simp [h], by simp [h], by simp [h], by simp [h], by simp [h]⟩
  case h_rccOf cond =>
    by_cases h : s.flags.satisfies cond <;> exact ⟨by simp [h], by simp [h], by simp [h], by simp [h], by simp [h]⟩
  all_goals exact ⟨by simp, by simp, by simp, by simp, by simp⟩

@[simp] theorem nextState_intPending (i : Instr) (s : State) : (nextState i s).intPending = s.intPending :=
  (sameSetting_nextState i s).intPending
@[simp] theorem nextState_intVector (i : Instr) (s : State) : (nextState i s).intVector = s.intVector :=
  (sameSetting_nextState i s).intVector
@[simp] theorem nextState_marking (i : Instr) (s : State) : (nextState i s).marking = s.marking :=
  (sameSetting_nextState i s).marking
@[simp] theorem nextState_figures (i : Instr) (s : State) : (nextState i s).figures = s.figures :=
  (sameSetting_nextState i s).figures
@[simp] theorem nextState_tJccNotTaken (i : Instr) (s : State) : (nextState i s).tJccNotTaken = s.tJccNotTaken :=
  (sameSetting_nextState i s).tJccNotTaken

end Sys2Proof.Machine
end

section
/-! A whole step as one equation over its accesses (30_encoding.md R110, 60_exceptions.md R328): the fetched and the
injected opcode differ in where the opcode byte comes from and in the state `Execute(op)` starts from, and in nothing
else. -/

namespace Sys2Proof.Machine

/-- The opcode byte the next step performs: the latched vector's low byte, or the byte at `pc`. -/
def State.opcode (s : State) : Byte := if s.intPending then lowByte s.intVector else s.byteAt s.pc

/-- The state `Execute(op)` starts from: an injected opcode is not fetched (R328). -/
def State.afterOpcode (s : State) : State := if s.intPending then s else s.afterFetch 1

/-- The instruction the next step performs, its operands read at `pc`. -/
def State.nextInstr (s : State) : Instr := s.afterOpcode.instrAt s.opcode

/-- The state that instruction is performed in: `pc` past all its bytes. -/
def State.afterOperands (s : State) : State := s.afterOpcode.afterFetch (operandCount s.opcode)

/-- The accesses of the next step, in order. -/
def stepAccesses (s : State) : List (Word × Direction) :=
  (if s.intPending then [] else [(s.pc, .read)]) ++ opcodeAccesses s.opcode s.afterOpcode

/-- The state after a step none of whose accesses is denied. -/
def stepNext (s : State) : State := (nextState s.nextInstr s.afterOperands).drainLatch

@[simp] theorem State.afterOpcode_variant (s : State) : s.afterOpcode.variant = s.variant := by
  unfold State.afterOpcode; split <;> simp

@[simp] theorem State.afterOpcode_intPending (s : State) : s.afterOpcode.intPending = s.intPending := by
  unfold State.afterOpcode; split <;> simp

@[simp] theorem State.afterOperands_intPending (s : State) : s.afterOperands.intPending = s.intPending := by
  simp [State.afterOperands]

theorem State.drainLatch_of_not_pending {s : State} (h : s.intPending = false) : s.drainLatch = s := by
  unfold State.drainLatch; rw [← h]

theorem drained_answer (d : Option (Word × Direction)) (t : State) : drained (answer d t) = answer d t.drainLatch := by
  cases d <;> rfl

theorem fetchExecute_eq_answer {s : State} (hp : s.intPending = false) :
    fetchExecute s = answer (s.firstDenied (stepAccesses s)) (stepNext s) := by
  have hop : s.opcode = s.byteAt s.pc := by simp [State.opcode, hp]
  have hs : s.afterOpcode = s.afterFetch 1 := by simp [State.afterOpcode, hp]
  have hd : (nextState s.nextInstr s.afterOperands).drainLatch = nextState s.nextInstr s.afterOperands :=
    State.drainLatch_of_not_pending (by simp [hp])
  rw [fetchExecute_eq, stepNext, hd, State.nextInstr, State.afterOperands, stepAccesses, hop, hs, hp]
  simp only [Bool.false_eq_true, if_false, List.singleton_append, State.firstDenied_cons]
  split
  · exact (executeOpcode_eq_answer _ (s.afterFetch 1)).trans
      (congrArg (answer · _) (State.firstDenied_congr (s.afterFetch_variant 1) _))
  · rfl

theorem serviceInterrupt_eq_answer {s : State} (hp : s.intPending = true) (hv : s.intVector ≤ 0x00FF#16) :
    serviceInterrupt s = answer (s.firstDenied (stepAccesses s)) (stepNext s) := by
  have hop : s.opcode = lowByte s.intVector := by simp [State.opcode, hp]
  have hs : s.afterOpcode = s := by simp [State.afterOpcode, hp]
  rw [serviceInterrupt_eq, if_neg (BitVec.not_lt.mpr hv), executeOpcode_eq_answer, drained_answer, stepNext,
    State.nextInstr, State.afterOperands, stepAccesses, hop, hs, hp]
  rfl

/-- A step faults on a latched vector above 0xFF (R328); else its accesses decide it. -/
theorem step_eq (s : State) :
    step s = if s.intPending = true ∧ 0x00FF#16 < s.intVector then .fault (.illegalDecode s.intVector)
      else answer (s.firstDenied (stepAccesses s)) (stepNext s) := by
  cases hp : s.intPending with
  | false =>
    rw [step_fetched hp, if_neg (by simp)]
    exact fetchExecute_eq_answer hp
  | true =>
    rw [step_injected hp]
    split
    case isTrue h => rw [serviceInterrupt_eq, if_pos h.2]
    case isFalse h => exact serviceInterrupt_eq_answer hp (by simpa using h)

/-- What a step that completes answers, and that all its accesses were allowed. -/
theorem step_next {s t : State} (h : step s = .next t) : s.firstDenied (stepAccesses s) = none ∧ t = stepNext s := by
  rw [step_eq] at h
  split at h
  · cases h
  · obtain ⟨hd, ht⟩ := answer_eq_next.mp h
    exact ⟨hd, ht.symm⟩

/-- A completed step leaves nothing latched. -/
@[simp] theorem stepNext_intPending (s : State) : (stepNext s).intPending = false := rfl

end Sys2Proof.Machine
end

section
/-! The invariant (10_state.md section 6, 20_memory.md section 5, 60_exceptions.md R326): it holds at construction, and
every step and every host move keeps it. -/

namespace Sys2Proof.Machine

/-! ### Memory and marks -/

/-- The part of the invariant about memory and marks. -/
structure State.BusInv (s : State) : Prop where
  mem : s.mem.wf = true
  readMarks : s.readMarks.wf = true
  writeMarks : s.writeMarks.wf = true
  unmarked : s.marking = false → s.readMarks = [] ∧ s.writeMarks = []

theorem State.inv_iff (s : State) : s.Inv ↔ s.BusInv ∧ s.variant.wf = true ∧ (s.intPending = true → s.inte = true) :=
  ⟨fun ⟨hmem, hread, hwrite, hvariant, hmarks, hlatch⟩ => ⟨⟨hmem, hread, hwrite, hmarks⟩, hvariant, hlatch⟩,
    fun ⟨h, hvariant, hlatch⟩ => ⟨h.mem, h.readMarks, h.writeMarks, hvariant, h.unmarked, hlatch⟩⟩

theorem State.BusInv.of_sameBus {s t : State} (h : s.BusInv) (hb : SameBus t s) (hm : t.marking = s.marking) : t.BusInv :=
  ⟨hb.mem ▸ h.mem, hb.readMarks ▸ h.readMarks, hb.writeMarks ▸ h.writeMarks,
    fun hf => hb.readMarks ▸ hb.writeMarks ▸ h.unmarked (hm ▸ hf)⟩

theorem Marks.wf_insert_if {m : Marks} (c : Bool) (a : Word) (h : m.wf = true) :
    (if c then m.insert a.toNat else m).wf = true := by
  split
  · exact Marks.insert_wf a h
  · exact h

theorem State.BusInv.afterRead {s : State} (h : s.BusInv) (a : Word) : (s.afterRead a).BusInv :=
  ⟨h.mem, Marks.wf_insert_if _ a h.readMarks, h.writeMarks, fun hm => by
    rw [State.afterRead_marking] at hm
    simpa [hm] using h.unmarked hm⟩

theorem State.BusInv.afterWrite {s : State} (h : s.BusInv) (a : Word) (v : Byte) : (s.afterWrite a v).BusInv :=
  ⟨Memory.write_wf a v h.mem, h.readMarks, Marks.wf_insert_if _ a h.writeMarks, fun hm => by
    rw [State.afterWrite_marking] at hm
    simpa [hm] using h.unmarked hm⟩

theorem State.BusInv.afterReads {s : State} (h : s.BusInv) (rs : List Word) : (s.afterReads rs).BusInv := by
  induction rs generalizing s with
  | nil => exact h
  | cons a rest ih => exact ih (h.afterRead a)

theorem State.BusInv.afterStores {s : State} (h : s.BusInv) (ws : List (Word × Byte)) : (s.afterStores ws).BusInv := by
  induction ws generalizing s with
  | nil => exact h
  | cons x rest ih => exact ih (h.afterWrite x.1 x.2)

theorem State.BusInv.nextState {s : State} (h : s.BusInv) (i : Instr) : (nextState i s).BusInv := by
  obtain ⟨stores, -, hb⟩ := busEffect_nextState i s
  exact ((h.afterReads (loadedFrom i s)).afterStores stores).of_sameBus hb (by simp)

theorem State.BusInv.afterFetch {s : State} (h : s.BusInv) (n : Nat) : (s.afterFetch n).BusInv := by
  induction n generalizing s with
  | zero => exact h
  | succ n ih => exact ih ((h.afterRead s.pc).of_sameBus ⟨rfl, rfl, rfl⟩ rfl)

theorem State.BusInv.afterOpcode {s : State} (h : s.BusInv) : s.afterOpcode.BusInv := by
  unfold State.afterOpcode
  split
  · exact h
  · exact h.afterFetch 1

/-! ### Steps -/

theorem stepNext_variant (s : State) : (stepNext s).variant = s.variant := by
  change (Machine.nextState s.nextInstr s.afterOperands).variant = s.variant
  rw [nextState_variant, State.afterOperands, State.afterFetch_variant, State.afterOpcode_variant]

/-- Settles O2: a step is fetches, one instruction and the clearing of the latch; fetches and the instruction touch
memory and marks by accesses alone, and with nothing latched the last clause is empty. -/
theorem stepKeepsInv : Obligations.StepKeepsInv := by
  intro s t hs h
  obtain ⟨-, rfl⟩ := step_next h
  obtain ⟨hbus, hv, -⟩ := s.inv_iff.mp hs
  have hn : (stepNext s).BusInv :=
    ((hbus.afterOpcode.afterFetch _).nextState s.nextInstr).of_sameBus ⟨rfl, rfl, rfl⟩ rfl
  exact (State.inv_iff _).mpr ⟨hn, stepNext_variant s ▸ hv, by simp⟩

/-! ### Construction and host moves -/

theorem launch_inv (p : Params) (l : Launch) (hv : p.variant.wf = true) (hm : l.mem.wf = true) : (launch p l).Inv :=
  ⟨hm, rfl, rfl, hv, fun _ => ⟨rfl, rfl⟩, fun h => absurd h Bool.false_ne_true⟩

/-- The parameters whose values `State.reset` has (notes/assumptions/3.md). -/
def Params.ofReset : Params :=
  ⟨State.reset.variant, State.reset.marking, State.reset.device, State.reset.figures, State.reset.tJccNotTaken⟩

/-- The launch whose values `State.reset` has (notes/assumptions/1.md, 2.md). -/
def Launch.ofReset : Launch :=
  ⟨State.reset.regs, State.reset.flags, State.reset.pc, State.reset.sp, State.reset.intVector, State.reset.mem⟩

theorem reset_eq_launch : State.reset = launch .ofReset .ofReset := rfl

/-- Settles O1: the fields by definition of `launch`, the invariant because nothing is marked or latched. -/
theorem constructionSatisfiesInv : Obligations.ConstructionSatisfiesInv := by
  refine ⟨fun p l => ⟨rfl, rfl, fun a => ⟨rfl, rfl⟩, rfl, rfl, rfl, rfl, rfl, rfl, rfl, rfl, rfl, rfl, rfl,
    launch_inv p l⟩, ⟨_, _, reset_eq_launch⟩, ?_⟩
  rw [reset_eq_launch]
  exact launch_inv _ _ rfl rfl

theorem hostStep_inv {op : HostOp} {s t : State} (hs : s.Inv) (h : hostStep op s = .next t) : t.Inv := by
  obtain ⟨hbus, hv, hl⟩ := s.inv_iff.mp hs
  obtain rfl | ⟨a, -, rfl⟩ | ⟨a, v, -, rfl⟩ | ⟨r, v, rfl⟩ | ⟨p, w, rfl⟩ | ⟨w, -, rfl⟩ | ⟨w, rfl⟩ |
    ⟨a, bytes, rfl⟩ | rfl | rfl | ⟨ranges, r, hc, hr, rfl⟩ | ⟨v, -, hi, rfl⟩ := hostStep_cases h
  · exact hs
  · exact (State.inv_iff _).mpr ⟨hbus.afterRead a, hv, hl⟩
  · exact (State.inv_iff _).mpr ⟨hbus.afterWrite a v, hv, hl⟩
  · exact hs
  · simpa [State.Inv] using hs
  · exact hs
  · exact hs
  · obtain ⟨m, hm, hwf⟩ := State.place_frame bytes s a
    rw [hm]
    exact (State.inv_iff _).mpr ⟨⟨hwf hbus.mem, hbus.readMarks, hbus.writeMarks, hbus.unmarked⟩, hv, hl⟩
  · exact (State.inv_iff _).mpr ⟨⟨rfl, hbus.readMarks, hbus.writeMarks, hbus.unmarked⟩, hv, hl⟩
  · exact (State.inv_iff _).mpr ⟨⟨hbus.mem, rfl, rfl, fun _ => ⟨rfl, rfl⟩⟩, hv, hl⟩
  · have hv' : (MemVariant.checked (ranges ++ [r])).wf = true := by
      simpa [MemVariant.wf, hr, hc] using hv
    exact (State.inv_iff _).mpr ⟨hbus.of_sameBus ⟨rfl, rfl, rfl⟩ rfl, hv', hl⟩
  · exact (State.inv_iff _).mpr ⟨hbus.of_sameBus ⟨rfl, rfl, rfl⟩ rfl, hv, fun _ => hi⟩

/-- Settles O3: move by move through `hostStep_cases`; a reachable state by induction on how it was reached. -/
theorem hostMovesKeepInv : Obligations.HostMovesKeepInv := by
  refine ⟨fun op s t hs h => hostStep_inv hs h, fun s hr => ?_⟩
  induction hr with
  | constructed p l hv hm => exact launch_inv p l hv hm
  | stepped _ h ih => exact stepKeepsInv _ _ ih h
  | hostActed op _ h ih => exact hostStep_inv ih h

end Sys2Proof.Machine
end

section
/-! Encoding (30_encoding.md R100 to R105, R112): the format and the opcode byte of each family of instructions, said
once, and from it that decoding undoes encoding; and that every byte the decoder accepts is the encoding of what it
reads. -/

namespace Sys2Proof.Machine

/-! ### The opcode bytes by family (R102, R112) -/

/-- `op` is the opcode byte of `i`, which has no operand. -/
structure OpcodeF1 (op : Byte) (i : Instr) : Prop where
  format : formatOf op = .f1
  instr : ∀ d w, instrOf op d w = i
  bytes : encode i = [op]

/-- `op` is the opcode byte of the instructions `i d` with an operand byte `d`. -/
structure OpcodeF2 (op : Byte) (i : Byte → Instr) : Prop where
  format : formatOf op = .f2
  instr : ∀ d w, instrOf op d w = i d
  bytes : ∀ d, encode (i d) = [op, d]

/-- `op` is the opcode byte of the instructions `i w` with an operand word `w`. -/
structure OpcodeF3 (op : Byte) (i : Word → Instr) : Prop where
  format : formatOf op = .f3
  instr : ∀ d w, instrOf op d w = i w
  bytes : ∀ w, encode (i w) = op :: wordBytes w

theorem opcode_movOf (dst src : Reg) : OpcodeF1 (0b01#2 ++ dst.field ++ src.field) (.movOf dst src) := by
  cases dst <;> cases src <;> exact ⟨rfl, fun _ _ => rfl, rfl⟩
theorem opcode_movFromMOf (dst : Reg) : OpcodeF1 (0b01#2 ++ dst.field ++ 0b110#3) (.movFromMOf dst) := by
  cases dst <;> exact ⟨rfl, fun _ _ => rfl, rfl⟩
theorem opcode_movToMOf (src : Reg) : OpcodeF1 (0b01110#5 ++ src.field) (.movToMOf src) := by
  cases src <;> exact ⟨rfl, fun _ _ => rfl, rfl⟩
theorem opcode_ldaxOf (p : IndexPair) : OpcodeF1 (0b000#3 ++ p.field ++ 0b1010#4) (.ldaxOf p) := by
  cases p <;> exact ⟨rfl, fun _ _ => rfl, rfl⟩
theorem opcode_staxOf (p : IndexPair) : OpcodeF1 (0b000#3 ++ p.field ++ 0b0010#4) (.staxOf p) := by
  cases p <;> exact ⟨rfl, fun _ _ => rfl, rfl⟩
theorem opcode_aluOf (op : AluOp) (r : RegM) : OpcodeF1 (0b10#2 ++ op.field ++ r.field) (.aluOf op r) := by
  cases op <;> (rcases r with r | _ <;> try cases r) <;> exact ⟨rfl, fun _ _ => rfl, rfl⟩
theorem opcode_inrOf (r : Reg) : OpcodeF1 (0b00#2 ++ r.field ++ 0b100#3) (.inrOf r) := by
  cases r <;> exact ⟨rfl, fun _ _ => rfl, rfl⟩
theorem opcode_dcrOf (r : Reg) : OpcodeF1 (0b00#2 ++ r.field ++ 0b101#3) (.dcrOf r) := by
  cases r <;> exact ⟨rfl, fun _ _ => rfl, rfl⟩
theorem opcode_inxOf (p : RegPair) : OpcodeF1 (0b00#2 ++ p.field ++ 0b0011#4) (.inxOf p) := by
  cases p <;> exact ⟨rfl, fun _ _ => rfl, rfl⟩
theorem opcode_dcxOf (p : RegPair) : OpcodeF1 (0b00#2 ++ p.field ++ 0b1011#4) (.dcxOf p) := by
  cases p <;> exact ⟨rfl, fun _ _ => rfl, rfl⟩
theorem opcode_dadOf (p : RegPair) : OpcodeF1 (0b00#2 ++ p.field ++ 0b1001#4) (.dadOf p) := by
  cases p <;> exact ⟨rfl, fun _ _ => rfl, rfl⟩
theorem opcode_rccOf (cond : Cond) : OpcodeF1 (0b11#2 ++ cond.field ++ 0b000#3) (.rccOf cond) := by
  cases cond <;> exact ⟨rfl, fun _ _ => rfl, rfl⟩
theorem opcode_rstOf (n : Fin 8) : OpcodeF1 (BitVec.ofNat 8 (0xC7 + 8 * n.val)) (.rstOf n) := by
  fin_cases n <;> exact ⟨rfl, fun _ _ => rfl, rfl⟩
theorem opcode_pushOf (p : StackPair) : OpcodeF1 (0b11#2 ++ p.field ++ 0b0101#4) (.pushOf p) := by
  cases p <;> exact ⟨rfl, fun _ _ => rfl, rfl⟩
theorem opcode_popOf (p : StackPair) : OpcodeF1 (0b11#2 ++ p.field ++ 0b0001#4) (.popOf p) := by
  cases p <;> exact ⟨rfl, fun _ _ => rfl, rfl⟩
theorem opcode_xchg : OpcodeF1 0xEB#8 .xchg := ⟨rfl, fun _ _ => rfl, rfl⟩
theorem opcode_inrM : OpcodeF1 0x34#8 .inrM := ⟨rfl, fun _ _ => rfl, rfl⟩
theorem opcode_dcrM : OpcodeF1 0x35#8 .dcrM := ⟨rfl, fun _ _ => rfl, rfl⟩
theorem opcode_daa : OpcodeF1 0x27#8 .daa := ⟨rfl, fun _ _ => rfl, rfl⟩
theorem opcode_rlc : OpcodeF1 0x07#8 .rlc := ⟨rfl, fun _ _ => rfl, rfl⟩
theorem opcode_rrc : OpcodeF1 0x0F#8 .rrc := ⟨rfl, fun _ _ => rfl, rfl⟩
theorem opcode_ral : OpcodeF1 0x17#8 .ral := ⟨rfl, fun _ _ => rfl, rfl⟩
theorem opcode_rar : OpcodeF1 0x1F#8 .rar := ⟨rfl, fun _ _ => rfl, rfl⟩
theorem opcode_cma : OpcodeF1 0x2F#8 .cma := ⟨rfl, fun _ _ => rfl, rfl⟩
theorem opcode_stc : OpcodeF1 0x37#8 .stc := ⟨rfl, fun _ _ => rfl, rfl⟩
theorem opcode_cmc : OpcodeF1 0x3F#8 .cmc := ⟨rfl, fun _ _ => rfl, rfl⟩
theorem opcode_ret : OpcodeF1 0xC9#8 .ret := ⟨rfl, fun _ _ => rfl, rfl⟩
theorem opcode_retAlias : OpcodeF1 0xD9#8 .retAlias := ⟨rfl, fun _ _ => rfl, rfl⟩
theorem opcode_pchl : OpcodeF1 0xE9#8 .pchl := ⟨rfl, fun _ _ => rfl, rfl⟩
theorem opcode_nop : OpcodeF1 0x00#8 .nop := ⟨rfl, fun _ _ => rfl, rfl⟩
theorem opcode_pushPSW : OpcodeF1 0xF5#8 .pushPSW := ⟨rfl, fun _ _ => rfl, rfl⟩
theorem opcode_popPSW : OpcodeF1 0xF1#8 .popPSW := ⟨rfl, fun _ _ => rfl, rfl⟩
theorem opcode_xthl : OpcodeF1 0xE3#8 .xthl := ⟨rfl, fun _ _ => rfl, rfl⟩
theorem opcode_sphl : OpcodeF1 0xF9#8 .sphl := ⟨rfl, fun _ _ => rfl, rfl⟩
theorem opcode_ei : OpcodeF1 0xFB#8 .ei := ⟨rfl, fun _ _ => rfl, rfl⟩
theorem opcode_di : OpcodeF1 0xF3#8 .di := ⟨rfl, fun _ _ => rfl, rfl⟩
theorem opcode_hlt : OpcodeF1 0x76#8 .hlt := ⟨rfl, fun _ _ => rfl, rfl⟩
theorem opcode_nopAlias {nnn : BitVec 3} (h : nnn ≠ 0#3) : OpcodeF1 (0b00#2 ++ nnn ++ 0b000#3) (.nopAlias nnn) := by
  obtain rfl | rfl | rfl | rfl | rfl | rfl | rfl :=
    (by decide : ∀ x : BitVec 3, x ≠ 0#3 → x = 1 ∨ x = 2 ∨ x = 3 ∨ x = 4 ∨ x = 5 ∨ x = 6 ∨ x = 7) nnn h <;>
  exact ⟨rfl, fun _ _ => rfl, rfl⟩
theorem opcode_mviOf (r : Reg) : OpcodeF2 (0b00#2 ++ r.field ++ 0b110#3) (.mviOf r) := by
  cases r <;> exact ⟨rfl, fun _ _ => rfl, fun _ => rfl⟩
theorem opcode_aluImmOf (op : AluOp) : OpcodeF2 (0b11#2 ++ op.field ++ 0b110#3) (.aluImmOf op) := by
  cases op <;> exact ⟨rfl, fun _ _ => rfl, fun _ => rfl⟩
theorem opcode_mviM : OpcodeF2 0x36#8 .mviM := ⟨rfl, fun _ _ => rfl, fun _ => rfl⟩
theorem opcode_inPort : OpcodeF2 0xDB#8 .inPort := ⟨rfl, fun _ _ => rfl, fun _ => rfl⟩
theorem opcode_outPort : OpcodeF2 0xD3#8 .outPort := ⟨rfl, fun _ _ => rfl, fun _ => rfl⟩
theorem opcode_lxiOf (p : RegPair) : OpcodeF3 (0b00#2 ++ p.field ++ 0b0001#4) (.lxiOf p) := by
  cases p <;> exact ⟨rfl, fun _ _ => rfl, fun _ => rfl⟩
theorem opcode_jccOf (cond : Cond) : OpcodeF3 (0b11#2 ++ cond.field ++ 0b010#3) (.jccOf cond) := by
  cases cond <;> exact ⟨rfl, fun _ _ => rfl, fun _ => rfl⟩
theorem opcode_cccOf (cond : Cond) : OpcodeF3 (0b11#2 ++ cond.field ++ 0b100#3) (.cccOf cond) := by
  cases cond <;> exact ⟨rfl, fun _ _ => rfl, fun _ => rfl⟩
theorem opcode_lda : OpcodeF3 0x3A#8 .lda := ⟨rfl, fun _ _ => rfl, fun _ => rfl⟩
theorem opcode_sta : OpcodeF3 0x32#8 .sta := ⟨rfl, fun _ _ => rfl, fun _ => rfl⟩
theorem opcode_lhld : OpcodeF3 0x2A#8 .lhld := ⟨rfl, fun _ _ => rfl, fun _ => rfl⟩
theorem opcode_shld : OpcodeF3 0x22#8 .shld := ⟨rfl, fun _ _ => rfl, fun _ => rfl⟩
theorem opcode_jmp : OpcodeF3 0xC3#8 .jmp := ⟨rfl, fun _ _ => rfl, fun _ => rfl⟩
theorem opcode_jmpAlias : OpcodeF3 0xCB#8 .jmpAlias := ⟨rfl, fun _ _ => rfl, fun _ => rfl⟩
theorem opcode_call : OpcodeF3 0xCD#8 .call := ⟨rfl, fun _ _ => rfl, fun _ => rfl⟩
theorem opcode_callAlias {pp : BitVec 2} (h : pp ≠ 0#2) : OpcodeF3 (0b11#2 ++ pp ++ 0b1101#4) (.callAlias pp) := by
  obtain rfl | rfl | rfl := (by decide : ∀ x : BitVec 2, x ≠ 0#2 → x = 1 ∨ x = 2 ∨ x = 3) pp h <;>
  exact ⟨rfl, fun _ _ => rfl, fun _ => rfl⟩

/-! ### What follows for decoding and for `Execute(op)` -/

theorem decode_f1 {op : Byte} (h : formatOf op = .f1) (rest : List Byte) :
    decode (op :: rest) = .ok (instrOf op 0#8 0#16, rest) := by simp [decode, h]

theorem decode_f2 {op : Byte} (h : formatOf op = .f2) (d : Byte) (rest : List Byte) :
    decode (op :: d :: rest) = .ok (instrOf op d 0#16, rest) := by simp [decode, h]

theorem decode_f3 {op : Byte} (h : formatOf op = .f3) (lo hi : Byte) (rest : List Byte) :
    decode (op :: lo :: hi :: rest) = .ok (instrOf op 0#8 (wordOf hi lo), rest) := by simp [decode, h]

theorem OpcodeF1.decodes {op : Byte} {i : Instr} (h : OpcodeF1 op i) : Decodes (encode i) i := fun rest => by
  rw [h.bytes, List.singleton_append, decode_f1 h.format, h.instr]

theorem OpcodeF2.decodes {op : Byte} {i : Byte → Instr} (h : OpcodeF2 op i) (d : Byte) : Decodes (encode (i d)) (i d) :=
  fun rest => by
    rw [h.bytes]
    exact (decode_f2 h.format d rest).trans (by rw [h.instr])

theorem OpcodeF3.decodes {op : Byte} {i : Word → Instr} (h : OpcodeF3 op i) (w : Word) : Decodes (encode (i w)) (i w) :=
  fun rest => by
    rw [h.bytes]
    exact (decode_f3 h.format (lowByte w) (highByte w) rest).trans (by rw [h.instr, wordOf_highByte_lowByte])

theorem OpcodeF1.performs {op : Byte} {i : Instr} (h : OpcodeF1 op i) : PerformsF1 op i :=
  performsF1_of h.format (h.instr _ _)

theorem OpcodeF2.performs {op : Byte} {i : Byte → Instr} (h : OpcodeF2 op i) : PerformsF2 op i :=
  performsF2_of h.format fun d => h.instr d _

theorem OpcodeF3.performs {op : Byte} {i : Word → Instr} (h : OpcodeF3 op i) : PerformsF3 op i :=
  performsF3_of h.format fun w => h.instr _ w

/-- Settles O4: family by family, from the opcode byte and the format; the aliases need their nonzero field. -/
theorem decodeOfEncode : Obligations.DecodeOfEncode := by
  intro i hwf
  induction i using instr_by_family
  case h_movOf dst src => exact (opcode_movOf dst src).decodes
  case h_movFromMOf dst => exact (opcode_movFromMOf dst).decodes
  case h_movToMOf src => exact (opcode_movToMOf src).decodes
  case h_mviOf r v => exact (opcode_mviOf r).decodes v
  case h_mviM v => exact opcode_mviM.decodes v
  case h_lxiOf p w => exact (opcode_lxiOf p).decodes w
  case h_lda a => exact opcode_lda.decodes a
  case h_sta a => exact opcode_sta.decodes a
  case h_lhld a => exact opcode_lhld.decodes a
  case h_shld a => exact opcode_shld.decodes a
  case h_ldaxOf p => exact (opcode_ldaxOf p).decodes
  case h_staxOf p => exact (opcode_staxOf p).decodes
  case h_xchg => exact opcode_xchg.decodes
  case h_aluOf op r => exact (opcode_aluOf op r).decodes
  case h_aluImmOf op v => exact (opcode_aluImmOf op).decodes v
  case h_inrOf r => exact (opcode_inrOf r).decodes
  case h_inrM => exact opcode_inrM.decodes
  case h_dcrOf r => exact (opcode_dcrOf r).decodes
  case h_dcrM => exact opcode_dcrM.decodes
  case h_inxOf p => exact (opcode_inxOf p).decodes
  case h_dcxOf p => exact (opcode_dcxOf p).decodes
  case h_dadOf p => exact (opcode_dadOf p).decodes
  case h_daa => exact opcode_daa.decodes
  case h_rlc => exact opcode_rlc.decodes
  case h_rrc => exact opcode_rrc.decodes
  case h_ral => exact opcode_ral.decodes
  case h_rar => exact opcode_rar.decodes
  case h_cma => exact opcode_cma.decodes
  case h_stc => exact opcode_stc.decodes
  case h_cmc => exact opcode_cmc.decodes
  case h_jmp a => exact opcode_jmp.decodes a
  case h_jmpAlias a => exact opcode_jmpAlias.decodes a
  case h_jccOf cond a => exact (opcode_jccOf cond).decodes a
  case h_call a => exact opcode_call.decodes a
  case h_callAlias pp a => exact (opcode_callAlias (by simpa [Instr.wellFormed] using hwf)).decodes a
  case h_cccOf cond a => exact (opcode_cccOf cond).decodes a
  case h_ret => exact opcode_ret.decodes
  case h_retAlias => exact opcode_retAlias.decodes
  case h_rccOf cond => exact (opcode_rccOf cond).decodes
  case h_rstOf n => exact (opcode_rstOf n).decodes
  case h_pchl => exact opcode_pchl.decodes
  case h_inPort port => exact opcode_inPort.decodes port
  case h_outPort port => exact opcode_outPort.decodes port
  case h_nopAlias nnn => exact (opcode_nopAlias (by simpa [Instr.wellFormed] using hwf)).decodes
  case h_nop => exact opcode_nop.decodes
  case h_pushOf p => exact (opcode_pushOf p).decodes
  case h_pushPSW => exact opcode_pushPSW.decodes
  case h_popOf p => exact (opcode_popOf p).decodes
  case h_popPSW => exact opcode_popPSW.decodes
  case h_xthl => exact opcode_xthl.decodes
  case h_sphl => exact opcode_sphl.decodes
  case h_ei => exact opcode_ei.decodes
  case h_di => exact opcode_di.decodes
  case h_hlt => exact opcode_hlt.decodes

/-! ### Every byte of the map (R111, R112, R114) -/

/-- The operand bytes that follow an opcode byte. -/
def operandBytes (op d : Byte) (w : Word) : List Byte :=
  match formatOf op with
  | .f1 => []
  | .f2 => [d]
  | .f3 => wordBytes w

/-- Each of the 256 entries of the opcode map is encoded by its own byte. -/
theorem encode_instrOf (op d : Byte) (w : Word) : encode (instrOf op d w) = op :: operandBytes op d w :=
  forall_byte (P := fun op => encode (instrOf op d w) = op :: operandBytes op d w)
    (by intro m n; fin_cases m <;> fin_cases n <;> rfl) op

/-- Each of the 256 entries of the opcode map is well formed. -/
theorem wellFormed_instrOf (op d : Byte) (w : Word) : (instrOf op d w).wellFormed = true :=
  forall_byte (P := fun op => (instrOf op d w).wellFormed = true)
    (by intro m n; fin_cases m <;> fin_cases n <;> rfl) op

/-- Settles O5: the instruction read is the opcode byte's map entry, and its encoding is that byte and the operands. -/
theorem encodeOfDecode : Obligations.EncodeOfDecode := by
  intro bytes i rest h
  match bytes with
  | [] => cases h
  | op :: tail =>
    cases hf : formatOf op with
    | f1 =>
      rw [decode_f1 hf] at h
      cases h
      exact ⟨wellFormed_instrOf .., by rw [encode_instrOf, operandBytes, hf]; rfl⟩
    | f2 =>
      match tail with
      | [] => simp [decode, hf] at h
      | d :: rest' =>
        rw [decode_f2 hf] at h
        cases h
        exact ⟨wellFormed_instrOf .., by rw [encode_instrOf, operandBytes, hf]; rfl⟩
    | f3 =>
      match tail with
      | [] | [_] => simp [decode, hf] at h
      | lo :: hi :: rest' =>
        rw [decode_f3 hf] at h
        cases h
        refine ⟨wellFormed_instrOf .., ?_⟩
        rw [encode_instrOf, operandBytes, hf]
        simp [wordBytes]

theorem decode_consumes_length (op d e : Byte) (rest : List Byte) :
    ∃ i, decode (op :: d :: e :: rest) = .ok (i, (op :: d :: e :: rest).drop (formatLength (formatOf op))) := by
  cases hf : formatOf op with
  | f1 => exact ⟨_, decode_f1 hf _⟩
  | f2 => exact ⟨_, decode_f2 hf _ _⟩
  | f3 => exact ⟨_, decode_f3 hf _ _ _⟩

set_option maxRecDepth 4000 in
/-- Settles O6: the bytes consumed by the three decoding rules; the counts over the 256 opcode bytes by evaluation. -/
theorem lengthsByOpcode : Obligations.LengthsByOpcode :=
  ⟨decode_consumes_length, by decide, by decide, by decide⟩

/-- Settles O8: the decoder evaluated on the sixteen byte strings. -/
theorem opcodeWordsDecode : Obligations.OpcodeWordsDecode :=
  ⟨rfl, rfl, rfl, rfl, rfl, rfl, rfl, rfl, rfl, rfl, rfl, rfl, rfl, rfl, rfl, rfl⟩

end Sys2Proof.Machine
end

section
/-! Fetching and stepping (30_encoding.md R106, R107, R110), completion and faults (20_memory.md R73, 60_exceptions.md
R320 to R324), and the permission table (20_memory.md R67, R69). -/

namespace Sys2Proof.Machine

/-! ### The state after a fetch -/

theorem State.afterFetch_pc (s : State) (n : Nat) : (s.afterFetch n).pc = s.pc + BitVec.ofNat 16 n := by
  induction n generalizing s with
  | zero => exact (BitVec.add_zero s.pc).symm
  | succ n ih => rw [Word.add_succ]; exact ih _

/-- A read marks its address if the marking layer is present, and no other. -/
theorem State.afterRead_marked (s : State) (a b : Word) :
    (s.afterRead a).readMarks.marked b.toNat = (s.readMarks.marked b.toNat || (s.marking && b == a)) := by
  have hb : (b.toNat == a.toNat) = (b == a) := by rw [Bool.eq_iff_iff]; simp [BitVec.toNat_eq]
  cases hm : s.marking <;> simp [hm, Marks.marked_insert, hb]

theorem State.afterFetch_marked (s : State) (n : Nat) (a : Word) :
    (s.afterFetch n).readMarks.marked a.toNat =
      (s.readMarks.marked a.toNat || (s.marking && (List.range n).any fun k => a == s.pc + BitVec.ofNat 16 k)) := by
  induction n generalizing s with
  | zero => simp [State.afterFetch]
  | succ n ih =>
    have hr : ((s.afterRead s.pc).setPc (s.pc + 1)).readMarks.marked a.toNat = _ := s.afterRead_marked s.pc a
    rw [State.afterFetch, ih, hr]
    simp only [State.setPc_marking, State.afterRead_marking, State.setPc_pc, List.range_succ_eq_map, List.any_cons,
      List.any_map, Function.comp_def, Nat.succ_eq_add_one, Word.add_succ, BitVec.add_zero]
    cases s.marking <;> simp [Bool.or_assoc]

/-- Fetching changes `pc` and the read marks only. -/
theorem State.afterFetch_frame (s : State) (n : Nat) : { s.afterFetch n with pc := s.pc, readMarks := s.readMarks } = s := by
  induction n generalizing s with
  | zero => rfl
  | succ n ih =>
    exact congrArg (fun u : State => { u with pc := s.pc, readMarks := s.readMarks }) (ih ((s.afterRead s.pc).setPc (s.pc + 1)))

/-- Settles O10: each clause by induction on the number of bytes. -/
theorem afterFetchAdvancesPcAndMarksReads : Obligations.AfterFetchAdvancesPcAndMarksReads := fun s n =>
  ⟨s.afterFetch_pc n, s.afterFetch_marked n, s.afterFetch_frame n⟩

/-! ### A fetched step -/

theorem executeOpcode_of_allowed_operands {op : Byte} {s : State}
    (h : s.firstDenied (s.fetchReads (operandCount op)) = none) :
    executeOpcode op s = exec (s.instrAt op) (s.afterFetch (operandCount op)) := by rw [executeOpcode_eq, h]

theorem executeOpcode_of_denied_operand {op : Byte} {s : State} {x : Word × Direction}
    (h : s.firstDenied (s.fetchReads (operandCount op)) = some x) :
    executeOpcode op s = .fault (.accessViolation x.1 x.2) := by rw [executeOpcode_eq, h]

/-- A step whose opcode byte may be fetched goes on with `Execute(op)`. -/
theorem step_of_opcode_allowed {s : State} (hp : s.intPending = false) (ha : s.allows s.pc .read = true) :
    step s = executeOpcode (s.byteAt s.pc) (s.afterFetch 1) := by
  rw [step_fetched hp, fetchExecute_eq, if_pos ha]
  rfl

theorem step_of_opcode_denied {s : State} (hp : s.intPending = false) (ha : s.allows s.pc .read = false) :
    step s = .fault (.accessViolation s.pc .read) := by
  rw [step_fetched hp, fetchExecute_eq, if_neg (Bool.eq_false_iff.mp ha)]

/-- Settles O9: the first byte is the opcode, the bytes after it are its operands (`decode_bytesAtPc`). -/
theorem stepRunsDecodedInstruction : Obligations.StepRunsDecodedInstruction := by
  intro s n i hp hdec
  match n with
  | 0 => cases hdec
  | n + 1 =>
    rw [State.bytesAtPc_succ] at hdec
    obtain ⟨hn, hi⟩ := decode_bytesAtPc hdec
    have hreads : (s.afterFetch 1).firstDenied ((s.afterFetch 1).fetchReads (operandCount (s.byteAt s.pc))) =
        s.firstDenied ((s.afterFetch 1).fetchReads n) := by rw [hn, State.firstDenied_congr (s.afterFetch_variant 1)]
    rw [State.fetchReads_succ, State.firstDenied_cons]
    cases ha : s.allows s.pc .read with
    | true =>
      rw [step_of_opcode_allowed hp ha]
      refine ⟨fun hnone => ?_, fun a dir hsome => ?_⟩
      · rw [if_pos rfl, ← hreads] at hnone
        rw [executeOpcode_of_allowed_operands hnone, hi, hn]
        rfl
      · rw [State.firstDenied_cons, if_pos ha, ← hreads] at hsome
        exact executeOpcode_of_denied_operand hsome
    | false =>
      rw [step_of_opcode_denied hp ha]
      refine ⟨fun hnone => by simp at hnone, fun a dir hsome => ?_⟩
      rw [State.firstDenied_cons, ha] at hsome
      cases hsome
      rfl

/-! ### Completion and faults -/

/-- Settles O11: `exec_eq` is the statement over `answer`. -/
theorem execCompletesOrFaultsAtFirstDenied : Obligations.ExecCompletesOrFaultsAtFirstDenied := fun i s =>
  ⟨fun h => ⟨nextState i s, (exec_eq i s).trans (answer_of_allowed h)⟩, faultsAtFirstDenied_of_eq (exec_eq i s)⟩

/-- Settles O13: by `step_eq` a step faults on the vector, or on a denied access. -/
theorem illegalDecodeOnlyFromLatchedVector : Obligations.IllegalDecodeOnlyFromLatchedVector := by
  intro s v
  rw [step_eq]
  split
  case isTrue h =>
    obtain ⟨hp, hv⟩ := h
    constructor
    · rintro ⟨⟩
      exact ⟨hp, rfl, hv⟩
    · rintro ⟨-, rfl, -⟩
      rfl
  case isFalse h =>
    constructor
    · intro hf
      obtain ⟨x, -, hx⟩ := answer_eq_fault.mp hf
      cases hx
    · rintro ⟨hp, rfl, hv⟩
      exact absurd ⟨hp, hv⟩ h

theorem step_ne_invalidRange (s : State) (lower upper : Nat) : step s ≠ .fault (.invalidRange lower upper) := by
  rw [step_eq]
  split
  · simp
  · intro hf
    obtain ⟨x, -, hx⟩ := answer_eq_fault.mp hf
    cases hx

theorem step_ne_refused (s : State) (r : Refusal) : step s ≠ .refused r := by
  rw [step_eq]
  split
  · simp
  · exact answer_ne_refused _ _ r

/-! ### The permission table -/

theorem addRange_pastTop {lower upper : Nat} (h : 0x10000 < max lower upper) (cap : Cap) (s : State) :
    addRange lower upper cap s = .refused (.rangeBoundPastTop lower upper) := if_pos (lt_max_iff.mp h)

theorem addRange_empty {lower upper : Nat} (h : upper ≤ lower) (hl : lower ≤ 0x10000) (cap : Cap) (s : State) :
    addRange lower upper cap s = .fault (.invalidRange lower upper) := by
  rw [addRange, Config.addressSpace, if_neg (by omega), if_pos h]

theorem addRange_checked {lower upper : Nat} (h : lower < upper) (hu : upper ≤ 0x10000) (cap : Cap) {s : State}
    {ranges : List PermRange} (hv : s.variant = .checked ranges) :
    addRange lower upper cap s = .next { s with variant := .checked (ranges ++ [⟨lower, upper, cap⟩]) } := by
  rw [addRange, Config.addressSpace, if_neg (by omega), if_neg (by omega)]
  simp only [hv]

/-- Settles O14: the three outcomes of `addRange` by its bounds; a step has no other outcomes than `step_eq` lists. -/
theorem invalidRangeOnlyFromAddingRange : Obligations.InvalidRangeOnlyFromAddingRange :=
  ⟨fun _ _ cap s h hl => addRange_empty h hl cap s, fun _ _ cap s h => addRange_pastTop h cap s,
    fun _ _ cap _ _ h hu hv => addRange_checked h hu cap hv, step_ne_invalidRange, step_ne_refused⟩

theorem PermRange.covers_iff (r : PermRange) (a : Nat) : r.covers a = true ↔ r.lower ≤ a ∧ a < r.upper := by
  simp [PermRange.covers]

/-- Ranges that do not contain the address are passed over. -/
theorem resolve_append {earlier : List PermRange} {a : Nat} (h : ∀ q ∈ earlier, ¬(q.lower ≤ a ∧ a < q.upper))
    (later : List PermRange) : resolve (earlier ++ later) a = resolve later a := by
  induction earlier with
  | nil => rfl
  | cons q rest ih =>
    rw [List.forall_mem_cons] at h
    rw [List.cons_append, resolve, if_neg (mt (q.covers_iff a).mp h.1), ih h.2]

/-- Settles O16: earlier ranges are passed over, the range itself covers; no range at all resolves to `None`. -/
theorem firstMatchingRangeWins : Obligations.FirstMatchingRangeWins := by
  refine ⟨fun earlier later r a h hl hu => ?firstMatch, fun ranges a h => ?none⟩
  case firstMatch => rw [resolve_append h, resolve, if_pos ((r.covers_iff a).mpr ⟨hl, hu⟩)]
  case none => simpa [resolve] using resolve_append h []

end Sys2Proof.Machine
end

section
/-! The frames of all instructions (10_state.md sections 1 to 7, 20_memory.md section 5 to 7): memory and marks by the bus
effect of an instruction, the flags, the registers and `sp` family by family. -/

namespace Sys2Proof.Machine

/-- An instruction that completes answers its `nextState`. -/
theorem exec_next {i : Instr} {s t : State} (h : exec i s = .next t) :
    s.firstDenied (dataAccesses i s) = none ∧ t = nextState i s := by
  rw [exec_eq, answer_eq_next] at h
  exact ⟨h.1, h.2.symm⟩

/-! ### Memory and marks -/

theorem State.afterStores_read_of_notMem (s : State) {ws : List (Word × Byte)} {a : Word} (h : a ∉ ws.map Prod.fst) :
    (s.afterStores ws).byteAt a = s.byteAt a := by
  induction ws generalizing s with
  | nil => rfl
  | cons x rest ih =>
    rw [List.map_cons, List.mem_cons, not_or] at h
    exact (ih _ h.2).trans (s.byteAt_afterWrite_of_ne x.2 h.1)

theorem State.afterReads_marked (s : State) (rs : List Word) (a : Word) :
    (s.afterReads rs).readMarks.marked a.toNat = (s.readMarks.marked a.toNat || (s.marking && decide (a ∈ rs))) := by
  induction rs generalizing s with
  | nil => simp [State.afterReads]
  | cons b rest ih =>
    refine (ih _).trans ?_
    rw [State.afterRead_marked, State.afterRead_marking, Bool.or_assoc, ← Bool.and_or_distrib_left]
    simp [List.mem_cons, Bool.decide_or, Bool.beq_eq_decide_eq]

theorem State.afterStores_marked (s : State) (ws : List (Word × Byte)) (a : Word) :
    (s.afterStores ws).writeMarks.marked a.toNat =
      (s.writeMarks.marked a.toNat || (s.marking && decide (a ∈ ws.map Prod.fst))) := by
  induction ws generalizing s with
  | nil => simp [State.afterStores]
  | cons x rest ih =>
    have hb : (a.toNat == x.1.toNat) = decide (a = x.1) := by rw [Bool.eq_iff_iff]; simp [BitVec.toNat_eq]
    refine (ih _).trans ?_
    rw [State.afterWrite_marked, State.afterWrite_marking, Bool.or_assoc, ← Bool.and_or_distrib_left, hb]
    simp [List.mem_cons, Bool.decide_or]

/-- Settles O17: memory after an instruction is memory after stores at `storedTo`. -/
theorem memoryFrame : Obligations.MemoryFrame := by
  intro i s t h
  obtain ⟨-, rfl⟩ := exec_next h
  obtain ⟨stores, hw, hbus⟩ := busEffect_nextState i s
  have hmem : (nextState i s).mem = ((s.afterReads (loadedFrom i s)).afterStores stores).mem := hbus.mem
  refine ⟨fun a ha => ?_, fun hnil => ?_⟩
  · have hread := State.afterStores_read_of_notMem (s.afterReads (loadedFrom i s)) (hw ▸ ha)
    rwa [State.byteAt, State.byteAt, State.afterReads_mem, ← hmem] at hread
  · obtain rfl : stores = [] := by rwa [hnil, List.map_eq_nil_iff] at hw
    exact hmem.trans (s.afterReads_mem _)

/-- Settles O22: the marks after an instruction are the marks after reads at `loadedFrom` and stores at `storedTo`. -/
theorem marksRecordDataAccesses : Obligations.MarksRecordDataAccesses := by
  intro i s t a h
  obtain ⟨-, rfl⟩ := exec_next h
  obtain ⟨stores, hw, hbus⟩ := busEffect_nextState i s
  refine ⟨?_, ?_⟩
  · rw [hbus.readMarks, State.afterBus, State.afterStores_readMarks, State.afterReads_marked]
  · rw [hbus.writeMarks, State.afterBus, State.afterStores_marked, State.afterReads_writeMarks, State.afterReads_marking, hw]

/-! ### Flags (10_state.md R28) -/

theorem FlagName.mem_all (f : FlagName) : f ∈ [FlagName.s, .z, .ac, .p, .cy] := by cases f <;> decide

theorem FlagName.eq_cy_of_notMem {f : FlagName} (h : f ∉ [FlagName.s, .z, .ac, .p]) : f = .cy := by
  cases f <;> simp at h ⊢

theorem Flags.get_setCy_of_notMem (g : Flags) {f : FlagName} (cy : Bool) (h : f ∉ [FlagName.cy]) :
    { g with cy := cy }.get f = g.get f := by
  cases f <;> simp [Flags.get] at h ⊢

/-- A flag that `flagsWritten` does not list is unchanged. -/
theorem nextState_flag {i : Instr} {f : FlagName} (s : State) (h : f ∉ flagsWritten i) :
    (nextState i s).flags.get f = s.flags.get f := by
  induction i using instr_by_family
  case h_aluOf op r => exact absurd f.mem_all (by simpa using h)
  case h_aluImmOf op v => exact absurd f.mem_all (by simpa using h)
  case h_daa => exact absurd f.mem_all h
  case h_popPSW => exact absurd f.mem_all h
  case h_inrOf r =>
    obtain rfl := FlagName.eq_cy_of_notMem (flagsWritten_inrOf r ▸ h)
    rw [nextState_inrOf]; rfl
  case h_inrM =>
    obtain rfl := FlagName.eq_cy_of_notMem h
    rw [nextState_inrM]; rfl
  case h_dcrOf r =>
    obtain rfl := FlagName.eq_cy_of_notMem (flagsWritten_dcrOf r ▸ h)
    rw [nextState_dcrOf]; rfl
  case h_dcrM =>
    obtain rfl := FlagName.eq_cy_of_notMem h
    rw [nextState_dcrM]; rfl
  case h_dadOf p => simpa using Flags.get_setCy_of_notMem s.flags _ (flagsWritten_dadOf p ▸ h)
  case h_rlc => simpa using Flags.get_setCy_of_notMem s.flags _ h
  case h_rrc => simpa using Flags.get_setCy_of_notMem s.flags _ h
  case h_ral => simpa using Flags.get_setCy_of_notMem s.flags _ h
  case h_rar => simpa using Flags.get_setCy_of_notMem s.flags _ h
  case h_stc => simpa using Flags.get_setCy_of_notMem s.flags _ h
  case h_cmc => simpa using Flags.get_setCy_of_notMem s.flags _ h
  case h_jccOf cond a => by_cases hc : s.flags.satisfies cond <;> simp [hc]
  case h_cccOf cond a => by_cases hc : s.flags.satisfies cond <;> simp [hc]
  case h_rccOf cond => by_cases hc : s.flags.satisfies cond <;> simp [hc]
  all_goals simp

/-- Settles O18: a completed instruction answers `nextState`, whose flags outside `flagsWritten` are the old ones. -/
theorem flagWriteFrame : Obligations.FlagWriteFrame := by
  intro i s t f h hf
  obtain ⟨-, rfl⟩ := exec_next h
  exact nextState_flag s hf

/-! ### Registers and `sp` (10_state.md R20, R26) -/

/-- Writing a pair leaves the registers outside it. -/
theorem State.setPair_get_of_notMem (s : State) (p : RegPair) (w : Word) {r : Reg} (h : r ∉ pairRegs p) :
    (s.setPair p w).regs.get r = s.regs.get r := by
  cases p <;> cases r <;> simp_all [pairRegs, State.setPair, Regs.setBc, Regs.setDe, Regs.setHl, Regs.get, State.setSp]

theorem State.setPair_sp_of_ne (s : State) {p : RegPair} (w : Word) (h : p ≠ .sp) : (s.setPair p w).sp = s.sp := by
  cases p <;> simp [State.setPair] at h ⊢

theorem State.aluApply_get_of_notMem (s : State) (op : AluOp) (v : Byte) {r : Reg} (h : r ∉ aluRegsWritten op) :
    (aluApply op v s).regs.get r = s.regs.get r := by
  cases op
  case cmp => rw [aluApply_cmp_regs]
  all_goals exact s.aluApply_get _ v (by simpa [aluRegsWritten] using h)

/-- A register that `regsWritten` does not list is unchanged. -/
theorem nextState_reg {i : Instr} {r : Reg} (s : State) (h : r ∉ regsWritten i) :
    (nextState i s).regs.get r = s.regs.get r := by
  have other {q : Reg} (v : Byte) (hq : r ∉ [q]) : (s.regs.set q v).get r = s.regs.get r :=
    Regs.get_set_of_ne _ _ _ _ (by simpa using hq)
  have outside {u : State} {p : RegPair} (w : Word) (hp : r ∉ pairRegs p) (hu : u.regs = s.regs) :
      (u.setPair p w).regs.get r = s.regs.get r := hu ▸ u.setPair_get_of_notMem p w hp
  induction i using instr_by_family
  case h_movOf dst src => exact nextState_movOf dst src s ▸ other _ (regsWritten_movOf dst src ▸ h)
  case h_movFromMOf dst => exact nextState_movFromMOf dst s ▸ other _ (regsWritten_movFromMOf dst ▸ h)
  case h_mviOf q v => exact nextState_mviOf q v s ▸ other _ (regsWritten_mviOf q v ▸ h)
  case h_lda a => exact nextState_lda a s ▸ other _ h
  case h_ldaxOf p => exact nextState_ldaxOf p s ▸ other _ (regsWritten_ldaxOf p ▸ h)
  case h_inrOf q => exact nextState_inrOf q s ▸ other _ (regsWritten_inrOf q ▸ h)
  case h_dcrOf q => exact nextState_dcrOf q s ▸ other _ (regsWritten_dcrOf q ▸ h)
  case h_rlc => exact nextState_rlc s ▸ other _ h
  case h_rrc => exact nextState_rrc s ▸ other _ h
  case h_ral => exact nextState_ral s ▸ other _ h
  case h_rar => exact nextState_rar s ▸ other _ h
  case h_cma => exact nextState_cma s ▸ other _ h
  case h_lxiOf p w => exact nextState_lxiOf p w s ▸ outside w (regsWritten_lxiOf p w ▸ h) rfl
  case h_inxOf p => exact nextState_inxOf p s ▸ outside _ (regsWritten_inxOf p ▸ h) rfl
  case h_dcxOf p => exact nextState_dcxOf p s ▸ outside _ (regsWritten_dcxOf p ▸ h) rfl
  case h_dadOf p => exact nextState_dadOf p s ▸ outside (p := .hl) _ (by simpa [pairRegs] using h) rfl
  case h_lhld a => exact nextState_lhld a s ▸ outside (p := .hl) _ h rfl
  case h_xthl => exact nextState_xthl s ▸ outside (p := .hl) _ h rfl
  case h_popOf p => exact nextState_popOf p s ▸ outside (p := stackRegPair p) _ (by cases p <;> exact h) rfl
  case h_xchg => cases r <;> simp [Regs.get] at h ⊢
  case h_daa => exact nextState_daa s ▸ other (q := .a) _ h
  case h_inPort port => exact nextState_inPort port s ▸ by simpa using other (q := .a) _ h
  case h_popPSW => exact nextState_popPSW s ▸ other (q := .a) _ h
  case h_aluOf op q =>
    simpa using (s.afterOperand q).aluApply_get_of_notMem op (s.operandValue q) (regsWritten_aluOf op q ▸ h)
  case h_aluImmOf op v => simpa using s.aluApply_get_of_notMem op v (regsWritten_aluImmOf op v ▸ h)
  case h_jccOf cond a => by_cases hc : s.flags.satisfies cond <;> simp [hc]
  case h_cccOf cond a => by_cases hc : s.flags.satisfies cond <;> simp [hc]
  case h_rccOf cond => by_cases hc : s.flags.satisfies cond <;> simp [hc]
  all_goals simp

/-- An instruction that `writesSp` does not list leaves `sp`. -/
theorem nextState_sp {i : Instr} (s : State) (h : writesSp i = false) : (nextState i s).sp = s.sp := by
  induction i using instr_by_family
  case h_lxiOf p w => simpa using s.setPair_sp_of_ne w (by simpa using h)
  case h_inxOf p => simpa using s.setPair_sp_of_ne _ (by simpa using h)
  case h_dcxOf p => simpa using s.setPair_sp_of_ne _ (by simpa using h)
  case h_dadOf p => simpa using s.setPair_sp_of_ne (p := .hl) _ (by decide)
  case h_lhld a => simpa using (s.afterRead16 a).setPair_sp_of_ne (p := .hl) _ (by decide)
  case h_xthl => simpa using ((s.afterRead16 s.sp).afterWrite16 s.sp s.hl).setPair_sp_of_ne (p := .hl) _ (by decide)
  case h_jccOf cond a => by_cases hc : s.flags.satisfies cond <;> simp [hc]
  case h_cccOf cond a => simp at h
  case h_rccOf cond => simp at h
  all_goals simp at h ⊢

/-- Settles O20: registers and `sp` of `nextState`, family by family. -/
theorem registerAndStackPointerFrame : Obligations.RegisterAndStackPointerFrame := by
  intro i s t h
  obtain ⟨-, rfl⟩ := exec_next h
  exact ⟨fun r hr => nextState_reg s hr, nextState_sp s⟩

/-! ### The I/O bus (20_memory.md R74 to R76) -/

/-- `t` has the events and the device of `s`. -/
structure SameIo (t s : State) : Prop where
  events : t.events = s.events
  device : t.device = s.device
  draws : t.draws = s.draws

/-- An instruction that `callsIo` does not list leaves the I/O bus alone. -/
theorem sameIo_nextState {i : Instr} (s : State) (h : callsIo i = false) : SameIo (nextState i s) s := by
  induction i using instr_by_family
  case h_jccOf cond a => by_cases hc : s.flags.satisfies cond <;> exact ⟨by simp [hc], by simp [hc], by simp [hc]⟩
  case h_cccOf cond a => by_cases hc : s.flags.satisfies cond <;> exact ⟨by simp [hc], by simp [hc], by simp [hc]⟩
  case h_rccOf cond => by_cases hc : s.flags.satisfies cond <;> exact ⟨by simp [hc], by simp [hc], by simp [hc]⟩
  case h_inPort | h_outPort | h_ei | h_di => simp at h
  all_goals exact ⟨by simp, by simp, by simp⟩

/-- Settles O21: what no instruction changes, and the I/O bus. -/
theorem latchAndConfigurationFrame : Obligations.LatchAndConfigurationFrame := by
  intro i s t h
  obtain ⟨-, rfl⟩ := exec_next h
  exact ⟨nextState_intPending i s, nextState_intVector i s, nextState_variant i s, nextState_marking i s,
    nextState_figures i s, nextState_tJccNotTaken i s,
    fun hio => ⟨(sameIo_nextState s hio).events, (sameIo_nextState s hio).device, (sameIo_nextState s hio).draws⟩⟩

end Sys2Proof.Machine
end

section
/-! Noninterference (10_state.md sections 3, 4 and 7, 20_memory.md section 5): what the next step does not depend on.
Each statement is one relation between states that performing an instruction preserves, lifted to steps once. -/

namespace Sys2Proof.Machine

/-! ### Lifting a relation from instructions to steps -/

/-- `s` and `t` agree on everything that decides which accesses the next step makes and which instruction it performs. -/
structure SameInputs (s t : State) : Prop where
  regs : s.regs = t.regs
  flags : s.flags = t.flags
  pc : s.pc = t.pc
  sp : s.sp = t.sp
  mem : s.mem = t.mem
  variant : s.variant = t.variant
  intPending : s.intPending = t.intPending
  intVector : s.intPending = true → s.intVector = t.intVector

theorem loadedFrom_congr {s t : State} (i : Instr) (hr : s.regs = t.regs) (hf : s.flags = t.flags) (hsp : s.sp = t.sp) :
    loadedFrom i s = loadedFrom i t := by
  have h : loadedFrom i s = loadedFrom i { t with regs := s.regs, flags := s.flags, sp := s.sp } := rfl
  rw [h, hr, hf, hsp]

theorem storedTo_congr {s t : State} (i : Instr) (hr : s.regs = t.regs) (hf : s.flags = t.flags) (hsp : s.sp = t.sp) :
    storedTo i s = storedTo i t := by
  have h : storedTo i s = storedTo i { t with regs := s.regs, flags := s.flags, sp := s.sp } := rfl
  rw [h, hr, hf, hsp]

theorem dataAccesses_congr {s t : State} (i : Instr) (hr : s.regs = t.regs) (hf : s.flags = t.flags) (hsp : s.sp = t.sp) :
    dataAccesses i s = dataAccesses i t := by
  rw [dataAccesses, dataAccesses, loadedFrom_congr i hr hf hsp, storedTo_congr i hr hf hsp]

theorem State.instrAt_congr {s t : State} (op : Byte) (hpc : s.pc = t.pc) (hm : s.mem = t.mem) :
    s.instrAt op = t.instrAt op := by
  have h : s.instrAt op = { t with pc := s.pc, mem := s.mem }.instrAt op := rfl
  rw [h, hpc, hm]

theorem SameInputs.opcode {s t : State} (h : SameInputs s t) : s.opcode = t.opcode := by
  unfold State.opcode
  rw [← h.intPending]
  split
  case isTrue hp => rw [h.intVector hp]
  case isFalse => rw [State.byteAt, State.byteAt, h.pc, h.mem]

theorem SameInputs.afterFetch {s t : State} (h : SameInputs s t) (n : Nat) : SameInputs (s.afterFetch n) (t.afterFetch n) :=
  ⟨by simp [h.regs], by simp [h.flags], by simp [State.afterFetch_pc, h.pc], by simp [h.sp], by simp [h.mem],
    by simp [h.variant], by simp [h.intPending], by simpa using h.intVector⟩

theorem SameInputs.afterOpcode {s t : State} (h : SameInputs s t) : SameInputs s.afterOpcode t.afterOpcode := by
  unfold State.afterOpcode
  rw [← h.intPending]
  split
  · exact h
  · exact h.afterFetch 1

theorem SameInputs.nextInstr {s t : State} (h : SameInputs s t) : s.nextInstr = t.nextInstr := by
  rw [State.nextInstr, State.nextInstr, h.opcode, State.instrAt_congr _ h.afterOpcode.pc h.afterOpcode.mem]

theorem stepAccesses_congr {s t : State} (h : SameInputs s t) : stepAccesses s = stepAccesses t := by
  have hs := h.afterOpcode
  have hd := hs.afterFetch (operandCount t.opcode)
  rw [stepAccesses, stepAccesses, opcodeAccesses, opcodeAccesses, h.opcode, h.intPending, h.pc,
    State.fetchReads, State.fetchReads, hs.pc, State.instrAt_congr _ hs.pc hs.mem,
    dataAccesses_congr _ hd.regs hd.flags hd.sp]

/-- A relation between states that implies equal inputs and that fetching and performing an instruction preserve. -/
structure Preserved (R : State → State → Prop) : Prop where
  inputs : ∀ {s t}, R s t → SameInputs s t
  fetch : ∀ {s t}, R s t → R (s.afterFetch 1) (t.afterFetch 1)
  perform : ∀ {s t} (i : Instr), R s t → R (nextState i s) (nextState i t)
  drain : ∀ {s t}, R s t → R s.drainLatch t.drainLatch

section
variable {R : State → State → Prop}

theorem Preserved.afterFetch (hR : Preserved R) {s t : State} (h : R s t) (n : Nat) : R (s.afterFetch n) (t.afterFetch n) := by
  induction n generalizing s t with
  | zero => exact h
  | succ n ih => exact ih (hR.fetch h)

theorem Preserved.related_stepNext (hR : Preserved R) {s t : State} (h : R s t) : R (stepNext s) (stepNext t) := by
  have hi := hR.inputs h
  have ho : R s.afterOpcode t.afterOpcode := by
    unfold State.afterOpcode
    rw [← hi.intPending]
    split
    · exact h
    · exact hR.fetch h
  have hp : R s.afterOperands t.afterOperands := by
    rw [State.afterOperands, State.afterOperands, hi.opcode]
    exact hR.afterFetch ho _
  rw [stepNext, stepNext, hi.nextInstr]
  exact hR.drain (hR.perform _ hp)

/-- Related states step to related states, or to the same fault. -/
theorem Preserved.related_step (hR : Preserved R) {s t : State} (h : R s t) :
    (∀ u, step s = .next u → ∃ v, step t = .next v ∧ R u v) ∧ ∀ f, step s = .fault f → step t = .fault f := by
  have hi := hR.inputs h
  have hstep : step t = if s.intPending = true ∧ 0x00FF#16 < s.intVector then .fault (.illegalDecode s.intVector)
      else answer (s.firstDenied (stepAccesses s)) (stepNext t) := by
    rw [step_eq t, State.firstDenied_congr hi.variant.symm, stepAccesses_congr hi, ← hi.intPending]
    by_cases hp : s.intPending = true
    · rw [hi.intVector hp]
    · simp [hp]
  refine ⟨fun u hu => ?_, fun f hf => ?_⟩
  · rw [step_eq s] at hu
    rw [hstep]
    split at hu
    · cases hu
    · rename_i hv
      obtain ⟨hd, rfl⟩ := answer_eq_next.mp hu
      exact ⟨stepNext t, by rw [if_neg hv, hd, answer_none], hR.related_stepNext h⟩
  · rw [step_eq s] at hf
    rw [hstep]
    split at hf
    · rename_i hv
      rw [if_pos hv, ← hf]
    · rename_i hv
      rw [if_neg hv]
      obtain ⟨x, hd, rfl⟩ := answer_eq_fault.mp hf
      rw [hd, answer_some]

end

/-! ### What the core's fields after an instruction depend on -/

/-- `s` with the marks, the marking layer and the figures forgotten. -/
def State.unmarked (s : State) : State :=
  { s with readMarks := [], writeMarks := [], marking := false, tstates := 0, figures := defaultFigures, tJccNotTaken := 0 }

/-- `s` with `INTE` and the latched vector forgotten. -/
def State.unlatched (s : State) : State := { s with inte := false, intVector := 0 }

/-- No instruction's effect on the rest depends on what `unmarked` forgets, nor on what `unlatched` forgets: no meaning
reads a mark, a figure, `INTE` or the vector but to hand it on. -/
theorem nextState_forgetful (i : Instr) (s : State) :
    (nextState i s).unmarked = (nextState i s.unmarked).unmarked ∧
    (nextState i s).unlatched = (nextState i s.unlatched).unlatched := by
  induction i using instr_by_family
  case h_jccOf cond a =>
    simp only [nextState_jccOf]
    change _ = State.unmarked (if s.flags.satisfies cond then _ else _) ∧
      _ = State.unlatched (if s.flags.satisfies cond then _ else _)
    split <;> exact ⟨rfl, rfl⟩
  case h_cccOf cond a =>
    simp only [nextState_cccOf]
    change _ = State.unmarked (if s.flags.satisfies cond then _ else _) ∧
      _ = State.unlatched (if s.flags.satisfies cond then _ else _)
    split <;> exact ⟨rfl, rfl⟩
  case h_rccOf cond =>
    simp only [nextState_rccOf]
    change _ = State.unmarked (if s.flags.satisfies cond then _ else _) ∧
      _ = State.unlatched (if s.flags.satisfies cond then _ else _)
    split <;> exact ⟨rfl, rfl⟩
  case h_inPort port =>
    simp only [nextState_inPort]
    rcases s with ⟨_, _, _, _, _, _, _, _, _, _, _, _, _, _, _ | (_ | _), _, _, _⟩ <;> exact ⟨rfl, rfl⟩
  case h_lxiOf p w | h_inxOf p | h_dcxOf p | h_dadOf p | h_popOf p => cases p <;> exact ⟨rfl, rfl⟩
  case h_aluOf op r =>
    simp only [nextState_aluOf]
    cases op <;> cases r <;> exact ⟨rfl, rfl⟩
  case h_aluImmOf op v => cases op <;> exact ⟨rfl, rfl⟩
  all_goals
    simp only [nextState_movOf, nextState_movFromMOf, nextState_movToMOf, nextState_mviOf, nextState_mviM,
      nextState_lda, nextState_sta, nextState_lhld, nextState_shld, nextState_ldaxOf, nextState_staxOf,
      nextState_xchg, nextState_inrOf, nextState_inrM, nextState_dcrOf, nextState_dcrM, nextState_daa, nextState_rlc,
      nextState_rrc, nextState_ral, nextState_rar, nextState_cma, nextState_stc, nextState_cmc, nextState_jmp,
      nextState_jmpAlias, nextState_call, nextState_callAlias, nextState_ret, nextState_retAlias, nextState_rstOf,
      nextState_pchl, nextState_outPort, nextState_nopAlias, nextState_nop, nextState_pushOf, nextState_pushPSW,
      nextState_popPSW, nextState_xthl, nextState_sphl, nextState_ei, nextState_di, nextState_hlt]
    exact ⟨rfl, rfl⟩

theorem State.afterFetch_unmarked (s : State) : (s.afterFetch 1).unmarked = s.unmarked.afterFetch 1 := rfl

theorem State.afterFetch_unlatched (s : State) : (s.afterFetch 1).unlatched = s.unlatched.afterFetch 1 := rfl

/-! ### What a step keeps -/

@[simp] theorem State.afterOpcode_intVector (s : State) : s.afterOpcode.intVector = s.intVector := by
  unfold State.afterOpcode; split <;> simp
@[simp] theorem State.afterOpcode_marking (s : State) : s.afterOpcode.marking = s.marking := by
  unfold State.afterOpcode; split <;> simp
@[simp] theorem State.afterOpcode_figures (s : State) : s.afterOpcode.figures = s.figures := by
  unfold State.afterOpcode; split <;> simp
@[simp] theorem State.afterOpcode_tJccNotTaken (s : State) : s.afterOpcode.tJccNotTaken = s.tJccNotTaken := by
  unfold State.afterOpcode; split <;> simp
@[simp] theorem State.afterOpcode_inte (s : State) : s.afterOpcode.inte = s.inte := by
  unfold State.afterOpcode; split <;> simp

theorem stepNext_intVector (s : State) : (stepNext s).intVector = s.intVector := by
  simp [stepNext, State.drainLatch, State.afterOperands]
theorem stepNext_marking (s : State) : (stepNext s).marking = s.marking := by
  simp [stepNext, State.drainLatch, State.afterOperands]
theorem stepNext_figures (s : State) : (stepNext s).figures = s.figures := by
  simp [stepNext, State.drainLatch, State.afterOperands]
theorem stepNext_tJccNotTaken (s : State) : (stepNext s).tJccNotTaken = s.tJccNotTaken := by
  simp [stepNext, State.drainLatch, State.afterOperands]

/-! ### The marks and the figures (20_memory.md section 5, D22; 70_reset_and_hazards.md section 6, D21) -/

/-- Equal but for the marks, the marking layer and the figures. -/
structure EqUnmarked (s t : State) : Prop where
  rest : s.unmarked = t.unmarked

theorem preserved_eqUnmarked : Preserved EqUnmarked where
  inputs h := ⟨(congrArg State.regs h.rest :), (congrArg State.flags h.rest :), (congrArg State.pc h.rest :),
    (congrArg State.sp h.rest :), (congrArg State.mem h.rest :), (congrArg State.variant h.rest :),
    (congrArg State.intPending h.rest :), fun _ => (congrArg State.intVector h.rest :)⟩
  fetch {s t} h := ⟨by rw [State.afterFetch_unmarked, State.afterFetch_unmarked, h.rest]⟩
  perform {s t} i h := ⟨by rw [(nextState_forgetful i s).1, (nextState_forgetful i t).1, h.rest]⟩
  drain h := ⟨(congrArg State.drainLatch h.rest :)⟩

/-- A state equal to `t` but for the marks, the marking layer and the figures is `t` with its own. -/
theorem EqUnmarked.eq {s t : State} (h : EqUnmarked s t) :
    t = { s with readMarks := t.readMarks, writeMarks := t.writeMarks, marking := t.marking, tstates := t.tstates,
                 figures := t.figures, tJccNotTaken := t.tJccNotTaken } :=
  (congrArg (fun u : State =>
    { u with readMarks := t.readMarks, writeMarks := t.writeMarks, marking := t.marking, tstates := t.tstates,
             figures := t.figures, tJccNotTaken := t.tJccNotTaken }) h.rest.symm :)

/-- Settles O23: being equal but for marks and figures is preserved, and a step keeps the marking layer and the figures. -/
theorem marksAndTimingNeverAffectExecution : Obligations.MarksAndTimingNeverAffectExecution := by
  intro s rm wm m n k fs
  obtain ⟨hnext, hfault⟩ := preserved_eqUnmarked.related_step (s := s)
    (t := { s with readMarks := rm, writeMarks := wm, marking := m, tstates := n, figures := fs, tJccNotTaken := k }) ⟨rfl⟩
  refine ⟨fun t ht => ?_, hfault⟩
  obtain ⟨v, hv, hR⟩ := hnext t ht
  have hkeep := (step_next hv).2
  have hm : v.marking = m := by rw [hkeep, stepNext_marking]
  have hfs : v.figures = fs := by rw [hkeep, stepNext_figures]
  have hk : v.tJccNotTaken = k := by rw [hkeep, stepNext_tJccNotTaken]
  refine ⟨v.readMarks, v.writeMarks, v.tstates, hv.trans (congrArg Host.Outcome.next ?_)⟩
  rw [← hm, ← hfs, ← hk]
  exact hR.eq

/-! ### INTE and the latch (10_state.md section 4, 60_exceptions.md section 2) -/

/-- Equal but for `INTE` and, where nothing is latched, the vector. -/
structure EqUnlatched (s t : State) : Prop where
  rest : s.unlatched = t.unlatched
  vector : s.intPending = true → s.intVector = t.intVector

theorem EqUnlatched.intPending {s t : State} (h : EqUnlatched s t) : s.intPending = t.intPending :=
  (congrArg State.intPending h.rest :)

theorem preserved_eqUnlatched : Preserved EqUnlatched where
  inputs h := ⟨(congrArg State.regs h.rest :), (congrArg State.flags h.rest :), (congrArg State.pc h.rest :),
    (congrArg State.sp h.rest :), (congrArg State.mem h.rest :), (congrArg State.variant h.rest :), h.intPending, h.vector⟩
  fetch {s t} h := by
    refine ⟨?_, by simpa using h.vector⟩
    rw [State.afterFetch_unlatched, State.afterFetch_unlatched, h.rest]
  perform {s t} i h := by
    refine ⟨?_, by simpa using h.vector⟩
    rw [(nextState_forgetful i s).2, (nextState_forgetful i t).2, h.rest]
  drain h := ⟨(congrArg State.drainLatch h.rest :), fun hp => absurd hp Bool.false_ne_true⟩

/-- A state equal to `t` but for `INTE` and the vector is `t` with its own. -/
theorem EqUnlatched.eq {s t : State} (h : EqUnlatched s t) : t = { s with inte := t.inte, intVector := t.intVector } :=
  (congrArg (fun u : State => { u with inte := t.inte, intVector := t.intVector }) h.rest.symm :)

theorem nextState_inte_of_ne {i : Instr} (s : State) (hei : i ≠ .ei) (hdi : i ≠ .di) : (nextState i s).inte = s.inte := by
  induction i using instr_by_family
  case h_jccOf cond a => by_cases hc : s.flags.satisfies cond <;> simp [hc]
  case h_cccOf cond a => by_cases hc : s.flags.satisfies cond <;> simp [hc]
  case h_rccOf cond => by_cases hc : s.flags.satisfies cond <;> simp [hc]
  case h_ei => exact absurd rfl hei
  case h_di => exact absurd rfl hdi
  all_goals simp

/-- `INTE` after an instruction: EI and DI write it, no other instruction does (D10). -/
theorem nextState_inte (i : Instr) (s : State) :
    (nextState i s).inte = if i = .ei then true else if i = .di then false else s.inte := by
  split
  case isTrue h => rw [h, nextState_ei]; rfl
  case isFalse hei =>
    split
    case isTrue h => rw [h, nextState_di]; rfl
    case isFalse hdi => exact nextState_inte_of_ne s hei hdi

theorem stepNext_inte (s : State) :
    (stepNext s).inte = if s.nextInstr = .ei then true else if s.nextInstr = .di then false else s.inte := by
  change (nextState s.nextInstr s.afterOperands).inte = _
  rw [nextState_inte]
  simp [State.afterOperands]

/-! ### Host moves and INTE -/

/-- `s` with `INTE` set to `b`. -/
def State.withInte (s : State) (b : Bool) : State := { s with inte := b }

theorem State.place_withInte (bytes : List Byte) (s : State) (a : Word) (b : Bool) :
    (s.withInte b).place a bytes = (s.place a bytes).withInte b := by
  induction bytes generalizing s a with
  | nil => rfl
  | cons v rest ih => exact ih { s with mem := s.mem.write a.toNat v } (a + 1)

/-- Every move but `requestInterrupt` commutes with replacing `INTE`, its faults and refusals included. -/
theorem hostStep_withInte {op : HostOp} (hop : ∀ v, op ≠ .requestInterrupt v) (s : State) (b : Bool) :
    hostStep op (s.withInte b) = mapNext (·.withInte b) (hostStep op s) := by
  cases op with
  | getReg i =>
    rw [hostStep_getReg, hostStep_getReg]
    cases regMOfIndex i with
    | reg r => rfl
    | mem => rw [mapNext_ite]; rfl
  | setReg i v =>
    rw [hostStep_setReg, hostStep_setReg]
    cases regMOfIndex i with
    | reg r => rfl
    | mem => rw [mapNext_ite]; rfl
  | setPair p w =>
    rw [hostStep, hostStep, hostSetPair, hostSetPair]
    cases pairOfIndex p <;> rfl
  | bulkLoad bytes start =>
    rw [hostStep, hostStep, bulkLoad, bulkLoad, State.place_withInte, mapNext_ite]
    rfl
  | read a => rw [hostStep_read, hostStep_read, mapNext_ite]; rfl
  | write a v => rw [hostStep_write, hostStep_write, mapNext_ite]; rfl
  | addRange lower upper cap =>
    rw [hostStep, hostStep, addRange, addRange, mapNext_ite, mapNext_ite]
    rcases s with ⟨_, _, _, _, _, _, _, _, _, _, _ | _⟩ <;> rfl
  | requestInterrupt v => exact absurd rfl (hop v)
  | setPc | setSp | clear | resetMarks => rfl

/-- Settles O24: who writes `INTE` over `nextState`, and that steps and host moves but `requestInterrupt` ignore it. -/
theorem interruptEnableGatesAcceptanceOnly : Obligations.InterruptEnableGatesAcceptanceOnly := by
  refine ⟨fun i s t h => ?written, fun s => ⟨?ei, ?di⟩, fun _ _ _ h => (hostStep_flags_inte h).2, fun p l => rfl,
    fun v s => ?accepted, fun s t h => ?cleared, fun s b => ?ignored, fun op s t b hop h => ?host⟩
  case written =>
    obtain ⟨-, rfl⟩ := exec_next h
    exact nextState_inte i s
  case ei => rw [exec_eq, nextState_ei]; rfl
  case di => rw [exec_eq, nextState_di]; rfl
  case accepted => rw [requestInterrupt]; cases s.inte <;> rfl
  case cleared =>
    obtain ⟨-, rfl⟩ := step_next h
    exact stepNext_intPending s
  case ignored =>
    have hR : EqUnlatched s { s with inte := b } := ⟨rfl, fun _ => rfl⟩
    obtain ⟨hnext, hfault⟩ := preserved_eqUnlatched.related_step hR
    refine ⟨fun t ht => ?_, hfault⟩
    obtain ⟨v, hv, hrel⟩ := hnext t ht
    have hvec : v.intVector = t.intVector := by
      rw [(step_next hv).2, (step_next ht).2, stepNext_intVector, stepNext_intVector]
    exact ⟨v.inte, hv.trans (congrArg Host.Outcome.next (hrel.eq.trans (by rw [hvec])))⟩
  case host => exact (hostStep_withInte hop s b).trans (by rw [h]; rfl)

/-- Settles O25: a step keeps the vector and ignores it while nothing is latched; the rest is what each host move does. -/
theorem latchWrittenOnlyByRequest : Obligations.LatchWrittenOnlyByRequest := by
  refine ⟨fun s t h => ?steps, fun _ _ _ hop h => hostStep_latch hop h, fun n s h => ?stored, fun n s h => ?refused,
    fun s v hp => ?ignored⟩
  case steps =>
    obtain ⟨-, rfl⟩ := step_next h
    exact ⟨stepNext_intVector s, stepNext_intPending s⟩
  case stored => rw [requestInterrupt, if_pos h]
  case refused => rw [requestInterrupt, if_neg (by simp [h])]
  case ignored =>
    have hR : EqUnlatched s { s with intVector := v } := ⟨rfl, fun h => absurd (hp.symm.trans h) Bool.false_ne_true⟩
    obtain ⟨hnext, hfault⟩ := preserved_eqUnlatched.related_step hR
    refine ⟨fun t ht => ?_, hfault⟩
    obtain ⟨u, hu, hrel⟩ := hnext t ht
    have hvec : u.intVector = v := by rw [(step_next hu).2, stepNext_intVector]
    have hinte : u.inte = t.inte := by
      rw [(step_next hu).2, (step_next ht).2, stepNext_inte, stepNext_inte, (preserved_eqUnlatched.inputs hR).nextInstr]
    exact hu.trans (congrArg Host.Outcome.next (hrel.eq.trans (by rw [hinte, hvec])))

/-! ### The flags an instruction does not read (10_state.md section 3) -/

theorem Flags.ext_get {f g : Flags} (h : ∀ n, g.get n = f.get n) : g = f := by
  have hs : g.s = f.s := h .s
  have hz : g.z = f.z := h .z
  have hac : g.ac = f.ac := h .ac
  have hp : g.p = f.p := h .p
  have hcy : g.cy = f.cy := h .cy
  cases f; cases g
  congr

@[simp] theorem State.setFlags_hl (s : State) (f : Flags) : (s.setFlags f).hl = s.hl := rfl

@[simp] theorem State.setFlags_getPair (s : State) (f : Flags) (p : RegPair) : (s.setFlags f).getPair p = s.getPair p := by
  cases p <;> rfl

theorem Flags.satisfies_congr {f g : Flags} (cond : Cond) (h : g.get (condFlag cond) = f.get (condFlag cond)) :
    g.satisfies cond = f.satisfies cond := by
  have hsel : g.select (cond.field.extractLsb' 1 2) = f.select (cond.field.extractLsb' 1 2) := by cases cond <;> exact h
  rw [Flags.satisfies, Flags.satisfies, hsel]

/-- An ALU operation sets all five flags, so it depends on no flag but the carry it reads. -/
theorem aluApply_setFlags {op : AluOp} (v : Byte) (s : State) {g : Flags}
    (h : ∀ f ∈ aluFlagsRead op, g.get f = s.flags.get f) : aluApply op v (s.setFlags g) = aluApply op v s := by
  cases op
  case adc =>
    have hcy : g.cy = s.flags.cy := h .cy (by decide)
    rw [aluApply, aluApply, aluAdd, aluAdd, State.setFlags_flags, hcy]; rfl
  case sbb =>
    have hcy : g.cy = s.flags.cy := h .cy (by decide)
    rw [aluApply, aluApply, aluSub, aluSub, State.setFlags_flags, hcy]; rfl
  all_goals rfl

/-- `i` performed from `s` with the flags `g` does the same but for the flags, and writes the same flags. -/
def SameButUnwrittenFlags (i : Instr) (s : State) (g : Flags) : Prop :=
  ∃ h : Flags, nextState i (s.setFlags g) = (nextState i s).setFlags h ∧
    ∀ f ∈ flagsWritten i, h.get f = (nextState i s).flags.get f

section
variable {i : Instr} {s : State} {g : Flags}

/-- An instruction that writes no flag. -/
theorem sameButUnwrittenFlags_of_none (hw : flagsWritten i = []) (h : nextState i (s.setFlags g) = (nextState i s).setFlags g) :
    SameButUnwrittenFlags i s g := ⟨g, h, by simp [hw]⟩

/-- An instruction whose whole effect does not depend on `g`. -/
theorem sameButUnwrittenFlags_of_eq (h : nextState i (s.setFlags g) = nextState i s) : SameButUnwrittenFlags i s g :=
  ⟨(nextState i s).flags, h, fun _ _ => rfl⟩

/-- An instruction that writes all flags but the carry. -/
theorem sameButUnwrittenFlags_of_keepsCy {f : Flags} (hw : flagsWritten i = [.s, .z, .ac, .p]) (ht : (nextState i s).flags = f)
    (h : nextState i (s.setFlags g) = (nextState i s).setFlags { f with cy := g.cy }) : SameButUnwrittenFlags i s g :=
  ⟨_, h, by simp [hw, ht, Flags.get]⟩

/-- An instruction that writes the carry alone. -/
theorem sameButUnwrittenFlags_of_setsCy {c : Bool} (hw : flagsWritten i = [.cy]) (ht : (nextState i s).flags.cy = c)
    (h : nextState i (s.setFlags g) = (nextState i s).setFlags { g with cy := c }) : SameButUnwrittenFlags i s g :=
  ⟨_, h, by simp [hw, ht, Flags.get]⟩

/-- With other values for the flags `i` does not read, `i` does the same but for the flags, and writes the same flags. -/
theorem sameButUnwrittenFlags_nextState (s : State) (hg : ∀ f ∈ flagsRead i, g.get f = s.flags.get f) :
    SameButUnwrittenFlags i s g := by
  induction i using instr_by_family
  case h_aluOf op r =>
    have halu : aluApply op (s.operandValue r) ((s.afterOperand r).setFlags g) =
        aluApply op (s.operandValue r) (s.afterOperand r) :=
      aluApply_setFlags _ _ (by cases r <;> exact flagsRead_aluOf op _ ▸ hg)
    refine sameButUnwrittenFlags_of_eq ?_
    rw [nextState_aluOf, nextState_aluOf, ← halu]
    cases r <;> rfl
  case h_aluImmOf op v =>
    refine sameButUnwrittenFlags_of_eq ?_
    rw [nextState_aluImmOf, nextState_aluImmOf, aluApply_setFlags v s (flagsRead_aluImmOf op v ▸ hg)]
    rfl
  case h_daa =>
    have hac : g.ac = s.flags.ac := hg .ac (by decide)
    have hcy : g.cy = s.flags.cy := hg .cy (by decide)
    refine sameButUnwrittenFlags_of_eq ?_
    rw [nextState_daa, nextState_daa, State.setFlags_flags, hac, hcy]
    rfl
  case h_popPSW => exact sameButUnwrittenFlags_of_eq (by rw [nextState_popPSW, nextState_popPSW]; rfl)
  case h_inrOf r =>
    exact sameButUnwrittenFlags_of_keepsCy (flagsWritten_inrOf r) rfl (by rw [nextState_inrOf, nextState_inrOf]; rfl)
  case h_dcrOf r =>
    exact sameButUnwrittenFlags_of_keepsCy (flagsWritten_dcrOf r) rfl (by rw [nextState_dcrOf, nextState_dcrOf]; rfl)
  case h_inrM => exact sameButUnwrittenFlags_of_keepsCy rfl rfl (by rw [nextState_inrM, nextState_inrM]; rfl)
  case h_dcrM => exact sameButUnwrittenFlags_of_keepsCy rfl rfl (by rw [nextState_dcrM, nextState_dcrM]; rfl)
  case h_dadOf p =>
    exact sameButUnwrittenFlags_of_setsCy (flagsWritten_dadOf p) rfl
      (by rw [nextState_dadOf, nextState_dadOf]; cases p <;> rfl)
  case h_rlc => exact sameButUnwrittenFlags_of_setsCy rfl rfl (by rw [nextState_rlc, nextState_rlc]; rfl)
  case h_rrc => exact sameButUnwrittenFlags_of_setsCy rfl rfl (by rw [nextState_rrc, nextState_rrc]; rfl)
  case h_stc => exact sameButUnwrittenFlags_of_setsCy rfl rfl (by rw [nextState_stc, nextState_stc]; rfl)
  case h_ral =>
    have hcy : g.cy = s.flags.cy := hg .cy (by decide)
    exact sameButUnwrittenFlags_of_setsCy rfl rfl
      (by rw [nextState_ral, nextState_ral, State.setFlags_flags, hcy]; rfl)
  case h_rar =>
    have hcy : g.cy = s.flags.cy := hg .cy (by decide)
    exact sameButUnwrittenFlags_of_setsCy rfl rfl
      (by rw [nextState_rar, nextState_rar, State.setFlags_flags, hcy]; rfl)
  case h_cmc =>
    have hcy : g.cy = s.flags.cy := hg .cy (by decide)
    exact sameButUnwrittenFlags_of_setsCy rfl rfl
      (by rw [nextState_cmc, nextState_cmc, State.setFlags_flags, hcy]; rfl)
  case h_pushPSW =>
    have hall : g = s.flags := Flags.ext_get fun f => hg f f.mem_all
    exact sameButUnwrittenFlags_of_none rfl (by rw [hall]; rfl)
  case h_jccOf cond a =>
    have hc := Flags.satisfies_congr cond (hg (condFlag cond) (by simp))
    refine sameButUnwrittenFlags_of_none (flagsWritten_jccOf cond a) ?_
    rw [nextState_jccOf, nextState_jccOf, State.setFlags_flags, hc]
    split <;> rfl
  case h_cccOf cond a =>
    have hc := Flags.satisfies_congr cond (hg (condFlag cond) (by simp))
    refine sameButUnwrittenFlags_of_none (flagsWritten_cccOf cond a) ?_
    rw [nextState_cccOf, nextState_cccOf, State.setFlags_flags, hc]
    split <;> rfl
  case h_rccOf cond =>
    have hc := Flags.satisfies_congr cond (hg (condFlag cond) (by simp))
    refine sameButUnwrittenFlags_of_none (flagsWritten_rccOf cond) ?_
    rw [nextState_rccOf, nextState_rccOf, State.setFlags_flags, hc]
    split <;> rfl
  case h_inPort port =>
    refine sameButUnwrittenFlags_of_none rfl ?_
    rw [nextState_inPort, nextState_inPort]
    rcases s with ⟨_, _, _, _, _, _, _, _, _, _, _, _, _, _, _ | (_ | _), _, _, _⟩ <;> rfl
  case h_lxiOf p w | h_inxOf p | h_dcxOf p | h_popOf p =>
    cases p <;> exact sameButUnwrittenFlags_of_none rfl rfl
  all_goals
    refine sameButUnwrittenFlags_of_none (by simp) ?_
    simp only [nextState_movOf, nextState_movFromMOf, nextState_movToMOf, nextState_mviOf, nextState_mviM,
      nextState_lda, nextState_sta, nextState_lhld, nextState_shld, nextState_ldaxOf, nextState_staxOf,
      nextState_xchg, nextState_cma, nextState_jmp, nextState_jmpAlias, nextState_call, nextState_callAlias,
      nextState_ret, nextState_retAlias, nextState_rstOf, nextState_pchl, nextState_outPort, nextState_nopAlias,
      nextState_nop, nextState_pushOf, nextState_xthl, nextState_sphl, nextState_ei, nextState_di, nextState_hlt]
    rfl

/-- The accesses of an instruction depend on no flag but those it reads. -/
theorem dataAccesses_setFlags (s : State) (hg : ∀ f ∈ flagsRead i, g.get f = s.flags.get f) :
    dataAccesses i (s.setFlags g) = dataAccesses i s := by
  induction i using instr_by_family
  case h_cccOf cond a =>
    have hc := Flags.satisfies_congr cond (hg (condFlag cond) (by simp))
    simp [dataAccesses, hc]
  case h_rccOf cond =>
    have hc := Flags.satisfies_congr cond (hg (condFlag cond) (by simp))
    simp [dataAccesses, hc]
  case h_aluOf op r => cases r <;> simp [dataAccesses, operandReads]
  all_goals simp [dataAccesses]

end

/-- Settles O19: the accesses and the next state, then `exec_eq`. -/
theorem flagReadNoninterference : Obligations.FlagReadNoninterference := by
  intro i s g hg
  obtain ⟨h, hnext, hwritten⟩ := sameButUnwrittenFlags_nextState s hg
  have hexec : exec i (s.setFlags g) = answer (s.firstDenied (dataAccesses i s)) ((nextState i s).setFlags h) := by
    rw [exec_eq, hnext, dataAccesses_setFlags s hg, State.firstDenied_congr (s.setFlags_variant g)]
  rw [exec_eq]
  refine ⟨fun t ht => ?_, fun r hr => ?_⟩
  · obtain ⟨hd, rfl⟩ := answer_eq_next.mp ht
    exact ⟨h, hexec.trans (by rw [hd]; rfl), hwritten⟩
  · obtain ⟨x, hd, rfl⟩ := answer_eq_fault.mp hr
    exact hexec.trans (by rw [hd]; rfl)

end Sys2Proof.Machine
end

section
/-! The injected opcode and the halt (60_exceptions.md sections 2 and 4, 70_reset_and_hazards.md section 4). -/

namespace Sys2Proof.Machine

/-! ### The injected opcode (R328) -/

/-- A latched vector up to 0xFF is performed as the opcode it is, then the latch is cleared. -/
theorem step_of_latched {s : State} {op : Byte} (hp : s.intPending = true) (hv : s.intVector = op.setWidth 16) :
    step s = drained (executeOpcode op s) := by
  have hsmall : ¬0x00FF#16 < s.intVector := by
    rw [hv]
    bv_omega
  have hop : lowByte s.intVector = op := by
    rw [hv, lowByte, BitVec.extractLsb'_setWidth_of_le (by decide), BitVec.extractLsb'_eq_self]
  rw [step_injected hp, serviceInterrupt_eq, if_neg hsmall, hop]

/-- Settles O26: the bytes decoded are the operands of the injected opcode (`decode_bytesAtPc`). -/
theorem latchedOpcodeIsPerformedWithoutFetch : Obligations.LatchedOpcodeIsPerformedWithoutFetch := by
  intro s op n i hp hv hdec
  obtain ⟨rfl, rfl⟩ := decode_bytesAtPc hdec
  rw [step_of_latched hp hv]
  refine ⟨fun hnone => ⟨fun t ht => ?_, fun f hf => ?_⟩, fun a dir hsome => ?_⟩
  · rw [executeOpcode_of_allowed_operands hnone, ht]; rfl
  · rw [executeOpcode_of_allowed_operands hnone, hf]; rfl
  · rw [executeOpcode_of_denied_operand hsome]; rfl

/-- The opcode byte of RST n is the vector's value, and its figure has that byte. -/
theorem rst_opcode (n : Fin 8) : BitVec.ofNat 16 (0xC7 + 8 * n.val) = (BitVec.ofNat 8 (0xC7 + 8 * n.val)).setWidth 16 ∧
    0b11#2 ++ BitVec.ofNat 3 n.val ++ 0b111#3 = BitVec.ofNat 8 (0xC7 + 8 * n.val) := by
  fin_cases n <;> exact ⟨rfl, rfl⟩

theorem answer_of_pushable {s t : State} (h : s.pushable = true) :
    answer (s.firstDenied [(s.sp - 1, .write), (s.sp - 2, .write)]) t = .next t := by
  obtain ⟨hhigh, hlow⟩ := Bool.and_eq_true_iff.mp h
  exact answer_of_allowed_two hhigh hlow

/-- Settles O27: an accepted request latches RST n, whose opcode the next step performs where the core stands. -/
theorem acceptedRstEntersHandler : Obligations.AcceptedRstEntersHandler := by
  refine ⟨fun n => by fin_cases n <;> rfl, fun s n hi hpush => ⟨?enters, fun v => ?replaced⟩⟩
  case enters =>
    obtain ⟨hv, hfig⟩ := rst_opcode n
    rw [requestInterrupt_enabled _ hi, step_of_latched rfl hv, (opcode_rstOf n).performs, exec_rstOf, restart_eq, hfig,
      answer_of_pushable (by exact hpush)]
    rfl
  case replaced =>
    rw [requestInterrupt_enabled v hi, requestInterrupt_enabled _ hi]
    exact requestInterrupt_enabled _ hi

/-! ### The end of a run (44_stack_io_control.md section 4, D18) -/

/-- `s` after the `HLT` at `pc` is performed: `pc` is back on it. -/
def State.afterHalt (s : State) : State := { s.afterRead s.pc with tstates := s.figure 0x76#8 true }

theorem State.runEnded_iff (s : State) :
    s.runEnded = true ↔ s.intPending = false ∧ s.allows s.pc .read = true ∧ s.byteAt s.pc = 0x76#8 := by
  simp [State.runEnded, and_assoc]

theorem step_of_runEnded {s : State} (h : s.runEnded = true) : step s = .next s.afterHalt := by
  obtain ⟨hp, ha, hb⟩ := s.runEnded_iff.mp h
  rw [step_of_opcode_allowed hp ha, hb, opcode_hlt.performs, exec_eq, nextState_hlt, State.afterFetch_pc]
  have hpc : s.pc + BitVec.ofNat 16 1 - 1 = s.pc := BitVec.add_sub_cancel s.pc 1
  rw [hpc]
  rfl

theorem State.afterHalt_runEnded {s : State} (h : s.runEnded = true) : s.afterHalt.runEnded = true := h

/-- Marking the read of `pc` again changes nothing. -/
theorem State.afterHalt_afterHalt (s : State) : s.afterHalt.afterHalt = s.afterHalt := by
  have hmark : (s.afterRead s.pc).afterRead s.pc = s.afterRead s.pc := by
    cases hm : s.marking <;> simp [State.afterRead, hm, Marks.insert_idem]
  exact congrArg (fun t : State => { t with tstates := s.figure 0x76#8 true }) hmark

theorem safeFor_of_step_self {s : State} (h : step s = .next s) (n : Nat) : SafeFor n s := by
  induction n with
  | zero => exact trivial
  | succ n ih => exact ⟨s, h, ih⟩

/-- Settles O28: the state after the halt is at the end of the run, and the halt repeats it. -/
theorem haltIsIdempotent : Obligations.HaltIsIdempotent := by
  refine ⟨rfl, fun s h => ?_⟩
  have hended := State.afterHalt_runEnded h
  have hself : step s.afterHalt = .next s.afterHalt := by rw [step_of_runEnded hended, s.afterHalt_afterHalt]
  exact ⟨s.afterHalt, rfl, step_of_runEnded h, hended, hself, safeFor_of_step_self hself⟩

end Sys2Proof.Machine
end

section
/-! Host loads and exports (20_memory.md section 8), a store seen by the next fetch (section 9), the stack (R71, R72) and
the status byte (10_state.md section 3). -/

namespace Sys2Proof.Machine

/-! ### Loading, clearing and exporting memory (R78 to R80) -/

theorem bulkLoad_pastTop {bytes : List Nat} {start : Nat} (h : 65536 < start % 65536 + bytes.length) (s : State) :
    bulkLoad bytes start s = .refused (.bulkLoadPastTop start bytes.length) := if_pos h

theorem bulkLoad_fits {bytes : List Nat} {start : Nat} (h : start % 65536 + bytes.length ≤ 65536) (s : State) :
    bulkLoad bytes start s = .next (s.place (BitVec.ofNat 16 (start % 65536)) (bytes.map (BitVec.ofNat 8))) := by
  have hstart : BitVec.ofNat 16 (start % 65536) = BitVec.ofNat 16 start := BitVec.eq_of_toNat_eq (by simp)
  rw [bulkLoad, Config.addressSpace, if_neg (by omega), hstart]

/-- Settles O32: the loader's bytes by `State.place_read`, the snapshot is memory read at every address in order. -/
theorem hostLoadsClearsAndExportsMemory : Obligations.HostLoadsClearsAndExportsMemory := by
  intro s
  refine ⟨fun bytes start hwf hfit => ?loads, fun bytes start h => bulkLoad_pastTop h s, clearMemory_byteAt s, rfl,
    by simp [snapshot, Config.addressSpace], fun a => ?snapshot⟩
  case loads =>
    have hread := State.place_read (bytes.map (BitVec.ofNat 8)) s (start % 65536) hwf
      (by simpa [Config.addressSpace] using hfit)
    obtain ⟨m, hm, -⟩ := State.place_frame (bytes.map (BitVec.ofNat 8)) s (BitVec.ofNat 16 (start % 65536))
    refine ⟨_, bulkLoad_fits hfit s, fun k hk => ?_, fun b hb => ?_, by rw [hm]⟩
    · rw [hread, dif_pos (by simpa using hk)]
      simp
    · rw [hread, dif_neg (by simp; omega)]
  case snapshot =>
    rw [snapshot, List.getElem?_map, List.getElem?_range (show a.toNat < Config.addressSpace from a.isLt)]
    rfl

/-! ### A store at `pc` (R84) -/

/-- Settles O33: the write leaves the byte at `pc` to the opcode fetch. -/
theorem storeIsSeenByNextFetch : Obligations.StoreIsSeenByNextFetch := by
  intro s t op hwf hp ht ha
  rw [memWrite] at ht
  split at ht
  case isFalse => cases ht
  case isTrue =>
    cases ht
    have hb : (s.afterWrite s.pc op).byteAt s.pc = op := State.byteAt_afterWrite_same s.pc op hwf
    rw [step_of_opcode_allowed (s := s.afterWrite s.pc op) hp ha]
    exact congrArg (executeOpcode · _) hb

/-! ### The stack (R71, R72) -/

theorem State.afterPush_byteAt_low {s : State} (w : Word) (h : s.mem.wf = true) :
    (s.afterPush w).byteAt (s.sp - 2) = lowByte w :=
  State.byteAt_afterWrite_same (s.sp - 2) (lowByte w) (State.afterWrite_mem_wf (s.sp - 1) (highByte w) h)

theorem State.afterPush_byteAt_high {s : State} (w : Word) (h : s.mem.wf = true) :
    (s.afterPush w).byteAt (s.sp - 1) = highByte w :=
  calc (s.afterPush w).byteAt (s.sp - 1)
    _ = (s.afterWrite (s.sp - 1) (highByte w)).byteAt (s.sp - 1) :=
      State.byteAt_afterWrite_of_ne _ (lowByte w) (by bv_omega)
    _ = highByte w := State.byteAt_afterWrite_same (s.sp - 1) (highByte w) h

theorem State.afterPush_byteAt_of_ne (s : State) (w : Word) {b : Word} (hhigh : b ≠ s.sp - 1) (hlow : b ≠ s.sp - 2) :
    (s.afterPush w).byteAt b = s.byteAt b :=
  (State.byteAt_afterWrite_of_ne _ (lowByte w) hlow).trans (s.byteAt_afterWrite_of_ne (highByte w) hhigh)

/-- The word at the top of the stack after a push is the word pushed. -/
theorem State.afterPush_wordAt {s : State} (w : Word) (h : s.mem.wf = true) : (s.afterPush w).wordAt (s.sp - 2) = w := by
  have hnext : s.sp - 2 + 1 = s.sp - 1 := by bv_omega
  rw [State.wordAt, hnext, State.afterPush_byteAt_high w h, State.afterPush_byteAt_low w h, wordOf_highByte_lowByte]

theorem push16_of_allowed {s : State} (w : Word) (hhigh : s.allows (s.sp - 1) .write = true)
    (hlow : s.allows (s.sp - 2) .write = true) : push16 w s = .ok () (s.afterPush w) := by
  rw [push16_eq, State.firstDenied_eq_none.mpr (by simpa using ⟨hhigh, hlow⟩)]
  rfl

theorem pop16_of_allowed {s : State} (hlow : s.allows s.sp .read = true) (hhigh : s.allows (s.sp + 1) .read = true) :
    pop16 s = .ok (s.wordAt s.sp) s.afterPop := by
  rw [pop16_eq, State.firstDenied_eq_none.mpr (by simpa using ⟨hlow, hhigh⟩)]
  rfl

/-- Settles O34: the two bytes stored are the two bytes read back. -/
theorem pushThenPopRestores : Obligations.PushThenPopRestores := by
  intro s w hwf hr1 hw1 hr2 hw2
  have hpop : pop16 (s.afterPush w) = .ok w (s.afterPush w).afterPop := by
    have hnext : s.sp - 2 + 1 = s.sp - 1 := by bv_omega
    have hhigh : (s.afterPush w).allows ((s.afterPush w).sp + 1) .read = true := by rwa [State.afterPush_sp, hnext]
    rw [pop16_of_allowed hr2 hhigh, State.afterPush_sp, State.afterPush_wordAt w hwf]
  exact ⟨s.afterPush w, (s.afterPush w).afterPop, push16_of_allowed w hw1 hw2, s.afterPush_sp w,
    State.afterPush_byteAt_high w hwf, State.afterPush_byteAt_low w hwf, fun b => s.afterPush_byteAt_of_ne w, rfl,
    hpop, BitVec.sub_add_cancel s.sp 2, rfl⟩

/-! ### The status byte (10_state.md section 3, D4) -/

theorem packPSW_spec (f : Flags) :
    (packPSW f).toNat = bit f.s * 128 + bit f.z * 64 + bit f.ac * 16 + bit f.p * 4 + 2 + bit f.cy ∧
      packPSW f &&& 0x2A#8 = 0x02#8 ∧ unpackPSW (packPSW f) = f := by
  rcases f with ⟨s, z, ac, p, cy⟩
  revert s z ac p cy
  decide

/-- Settles O35: the 32 values of the flags, and the 256 of the byte. -/
theorem statusBytePacking : Obligations.StatusBytePacking :=
  ⟨packPSW_spec, forall_byte (by decide)⟩

end Sys2Proof.Machine
end

section
/-! Arithmetic, logic, compares and rotates (41_arithmetic.md, 42_logical.md): the ALU primitives in the spec's integer
formulas, and the instructions that use them. -/

namespace Sys2Proof.Machine

/-! ### The ALU primitives (R170, R171, R210 to R213) -/

/-- What an ALU operation leaves in A, of A, the operand and the carry. -/
def aluValue : AluOp → Byte → Byte → Bool → Byte
  | .add, a, v, _ => a + v
  | .adc, a, v, cy => a + v + BitVec.ofNat 8 (bit cy)
  | .sub, a, v, _ => difference a v false
  | .sbb, a, v, cy => difference a v cy
  | .ana, a, v, _ => a &&& v
  | .xra, a, v, _ => a ^^^ v
  | .ora, a, v, _ => a ||| v
  | .cmp, a, _, _ => a

/-- The flags an ALU operation leaves. -/
def aluFlags : AluOp → Byte → Byte → Bool → Flags
  | .add, a, v, _ => sumFlags a v false
  | .adc, a, v, cy => sumFlags a v cy
  | .sub, a, v, _ => differenceFlags a v false
  | .sbb, a, v, cy => differenceFlags a v cy
  | .ana, a, v, _ => resultFlags (a &&& v) ((a ||| v).getLsbD 3) false
  | .xra, a, v, _ => resultFlags (a ^^^ v) false false
  | .ora, a, v, _ => resultFlags (a ||| v) false false
  | .cmp, a, v, _ => differenceFlags a v false

theorem aluAdd_eq (v : Byte) (withCarry : Bool) (s : State) :
    aluAdd v withCarry s = s.withAF (BitVec.ofNat 8 (s.regs.a.toNat + v.toNat + bit (withCarry && s.flags.cy)))
      (sumFlags s.regs.a v (withCarry && s.flags.cy)) := by
  simp only [aluAdd, setSZP_eq_resultFlags, addAc_acKey, sumFlags, Nat.lt_iff_add_one_le, Nat.reduceAdd]

theorem aluSub_eq (v : Byte) (withCarry : Bool) (s : State) :
    aluSub v withCarry s = s.withAF (difference s.regs.a v (withCarry && s.flags.cy))
      (differenceFlags s.regs.a v (withCarry && s.flags.cy)) := by
  simp only [aluSub, setSZP_eq_resultFlags, subBorrow_acKey, difference_eq_ofNat, borrow_eq, differenceFlags,
    ← decide_not, Nat.not_lt]

theorem ofNat_sum (a v : Byte) (cin : Bool) :
    BitVec.ofNat 8 (a.toNat + v.toNat + bit cin) = a + v + BitVec.ofNat 8 (bit cin) := by
  apply BitVec.eq_of_toNat_eq
  simp

/-- An ALU operation changes A and the flags, to the values above. -/
theorem aluApply_eq (op : AluOp) (v : Byte) (s : State) :
    aluApply op v s = s.withAF (aluValue op s.regs.a v s.flags.cy) (aluFlags op s.regs.a v s.flags.cy) := by
  cases op with
  | add =>
    rw [aluApply, aluAdd_eq, Bool.false_and, ofNat_sum]
    exact congrArg (s.withAF · _) (BitVec.add_zero _)
  | adc => rw [aluApply, aluAdd_eq, Bool.true_and, ofNat_sum]; rfl
  | sub => exact aluSub_eq v false s
  | sbb => exact aluSub_eq v true s
  | ana => simp only [aluApply, aluAnd, setSZP_eq_resultFlags, aluValue, aluFlags]
  | xra => simp only [aluApply, aluXor, setSZP_eq_resultFlags, aluValue, aluFlags]
  | ora => simp only [aluApply, aluOr, setSZP_eq_resultFlags, aluValue, aluFlags]
  | cmp => rw [aluApply, aluCmp, aluSub_eq]; rfl

/-! ### The instructions over the primitives -/

/-- The default figures of the ALU operations with a register or memory operand. -/
theorem figure_aluOf (op : AluOp) (r : RegM) :
    defaultFigures.figure (0b10#2 ++ op.field ++ r.field) true = if r = .mem then 7 else 4 := by
  cases r with
  | reg r => cases op <;> cases r <;> rfl
  | mem => cases op <;> rfl

section
variable {s : State} {r : RegM}

theorem exec_aluOf_of_readable (op : AluOp) (h : s.operandReadable r = true) :
    exec (.aluOf op r) s = .next { s.afterOperand r with
      regs := { s.regs with a := aluValue op s.regs.a (s.operandValue r) s.flags.cy },
      flags := aluFlags op s.regs.a (s.operandValue r) s.flags.cy,
      tstates := s.figure (0b10#2 ++ op.field ++ r.field) true } := by
  rw [exec_eq, nextState_aluOf, aluApply_eq]
  cases r with
  | reg q => exact answer_of_allowed (by simp [dataAccesses, operandReads])
  | mem =>
    have hread : s.allows s.hl .read = true := h
    exact answer_of_allowed (by simpa [dataAccesses, operandReads] using hread)

theorem exec_aluOf_of_unreadable (op : AluOp) (h : s.operandReadable r = false) :
    exec (.aluOf op r) s = .fault (.accessViolation s.hl .read) := by
  cases r with
  | reg q => cases h
  | mem =>
    have hd : dataAccesses (.aluOf op .mem) s = [(s.hl, .read)] := by simp [dataAccesses, operandReads]
    rw [exec_eq, hd, answer_of_denied_one h]

end

theorem exec_aluImmOf_next (op : AluOp) (v : Byte) (s : State) :
    exec (.aluImmOf op v) s = .next { s with
      regs := { s.regs with a := aluValue op s.regs.a v s.flags.cy }, flags := aluFlags op s.regs.a v s.flags.cy,
      tstates := s.figure (0b11#2 ++ op.field ++ 0b110#3) true } := by
  rw [exec_aluImmOf, aluImmediate, aluApply_eq]
  rfl

/-! ### Addition and subtraction (41_arithmetic.md sections 2 and 3) -/

/-- A number below 512 has bit 8 exactly if it exceeds 255. -/
theorem decide_lt_eq_testBit_eight {n : Nat} (h : n < 512) : decide (255 < n) = n.testBit 8 := by
  rw [Nat.testBit_eq_decide_div_mod_eq, decide_eq_decide]
  omega

theorem sumFlags_cy (a v : Byte) (cin : Bool) : (sumFlags a v cin).cy = (a.toNat + v.toNat + bit cin).testBit 8 := by
  have ha := a.isLt
  have hv := v.isLt
  have hc : bit cin ≤ 1 := by cases cin <;> decide
  exact decide_lt_eq_testBit_eight (by omega)

/-- Settles O42: the primitive by `aluAdd_eq`, the instructions by `aluValue` and `aluFlags`. -/
theorem addSetsSumAndFlags : Obligations.AddSetsSumAndFlags := by
  refine ⟨figure_aluOf .add, rfl, fun s v withCarry cin h => ?primitive, fun s v h => ?zero,
    fun r => (opcode_aluOf .add r).performs, (opcode_aluImmOf .add).performs,
    fun s r => ⟨exec_aluOf_of_readable .add, exec_aluOf_of_unreadable .add⟩, fun s v => exec_aluImmOf_next .add v s⟩
  case primitive =>
    subst h
    exact ⟨aluAdd_eq v withCarry s, sumFlags_cy _ _ _⟩
  case zero =>
    have heq : aluAdd v false s = s.withAF (0x00#8 + v) (sumFlags 0x00#8 v false) := h ▸ aluApply_eq .add v s
    have hcy : decide (255 < 0 + v.toNat + 0) = false := decide_eq_false (by have := v.isLt; omega)
    have hz : decide ((BitVec.ofNat 8 (0 + v.toNat + 0)).toNat = 0) = decide (v = 0x00#8) := by
      rw [decide_eq_decide]
      bv_omega
    rw [heq]
    exact ⟨BitVec.zero_add v, hcy, hz⟩

/-- Settles O43: the instructions by `aluValue` and `aluFlags`. -/
theorem carryAndBorrowArithmetic : Obligations.CarryAndBorrowArithmetic := by
  refine ⟨fun r => ⟨figure_aluOf .adc r, figure_aluOf .sub r, figure_aluOf .sbb r⟩, rfl, rfl, rfl,
    fun r => ⟨(opcode_aluOf .adc r).performs, (opcode_aluOf .sub r).performs, (opcode_aluOf .sbb r).performs⟩,
    (opcode_aluImmOf .adc).performs, (opcode_aluImmOf .sub).performs, (opcode_aluImmOf .sbb).performs,
    fun s r => ⟨fun h => ?_, fun h op _ => exec_aluOf_of_unreadable op h⟩, fun s v => ?_⟩
  · exact ⟨exec_aluOf_of_readable .adc h, exec_aluOf_of_readable .sub h, exec_aluOf_of_readable .sbb h⟩
  · exact ⟨exec_aluImmOf_next .adc v s, exec_aluImmOf_next .sub v s, exec_aluImmOf_next .sbb v s⟩

/-! ### Increments, decrements and pairs (41_arithmetic.md section 4) -/

theorem afterInr_eq (f : Flags) (v : Byte) : f.afterInr v = resultFlags v (decide (v.toNat % 16 = 0)) f.cy :=
  setSZP_eq_resultFlags f v _ f.cy

theorem afterDcr_eq (f : Flags) (v : Byte) : f.afterDcr v = resultFlags v (decide (v.toNat % 16 ≠ 15)) f.cy :=
  setSZP_eq_resultFlags f v _ f.cy

/-- Settles O44: the flags by `afterInr_eq` and `afterDcr_eq`. -/
theorem incrementAndDecrementByte : Obligations.IncrementAndDecrementByte := by
  refine ⟨fun r => by cases r <;> exact ⟨rfl, rfl⟩, rfl, rfl,
    fun r => ⟨(opcode_inrOf r).performs, (opcode_dcrOf r).performs⟩, opcode_inrM.performs, opcode_dcrM.performs,
    fun s r v hv => ?inr, fun s r v hv => ?dcr, fun s v w hv hw => ⟨fun hread hwrite => ⟨?inrM, ?dcrM⟩, ?_, ?_⟩⟩
  case inr =>
    subst hv
    rw [exec_inrOf, incrementRegister, afterInr_eq]
    rfl
  case dcr =>
    subst hv
    rw [exec_dcrOf, decrementRegister, afterDcr_eq]
    rfl
  case inrM =>
    subst hv
    rw [exec_inrM, incrementMemory_eq, answer_of_allowed_two hread hwrite, afterInr_eq]
    rfl
  case dcrM =>
    subst hw
    rw [exec_dcrM, decrementMemory_eq, answer_of_allowed_two hread hwrite, afterDcr_eq]
    rfl
  · exact faultsAtFirstDenied_of_eq (exec_eq .inrM s)
  · exact faultsAtFirstDenied_of_eq (exec_eq .dcrM s)

theorem word_succ (w : Word) : w + 1 = BitVec.ofNat 16 (w.toNat + 1) := by
  apply BitVec.eq_of_toNat_eq
  simp

theorem word_pred (w : Word) : w - 1 = BitVec.ofNat 16 (w.toNat + 65535) := by
  bv_omega

theorem highByte_ofNat (n : Nat) : highByte (BitVec.ofNat 16 n) = BitVec.ofNat 8 (n / 256) := by
  apply BitVec.eq_of_toNat_eq
  rw [highByte, BitVec.extractLsb'_toNat, BitVec.toNat_ofNat, BitVec.toNat_ofNat, Nat.shiftRight_eq_div_pow]
  omega

theorem lowByte_ofNat (n : Nat) : lowByte (BitVec.ofNat 16 n) = BitVec.ofNat 8 n := by
  apply BitVec.eq_of_toNat_eq
  simp [lowByte]

/-- A number below 131072 has bit 16 exactly if it exceeds 65535. -/
theorem decide_le_eq_testBit_sixteen {n : Nat} (h : n < 131072) : decide (65536 ≤ n) = n.testBit 16 := by
  rw [Nat.testBit_eq_decide_div_mod_eq, decide_eq_decide]
  omega

/-- Settles O45: pair arithmetic as integer arithmetic mod 65536. -/
theorem pairArithmetic : Obligations.PairArithmetic := by
  refine ⟨fun p => by cases p <;> exact ⟨rfl, rfl, rfl⟩,
    fun p => ⟨(opcode_inxOf p).performs, (opcode_dcxOf p).performs, (opcode_dadOf p).performs⟩,
    fun s p sum hsum => ⟨?inx, ?dcx, ?dad⟩⟩
  case inx => rw [exec_inxOf, incrementPair, word_succ]; rfl
  case dcx => rw [exec_dcxOf, decrementPair, word_pred]; rfl
  case dad =>
    have hhl : s.hl.toNat < 65536 := s.hl.isLt
    have hp : (s.getPair p).toNat < 65536 := (s.getPair p).isLt
    have hsum' : sum = s.hl.toNat + (s.getPair p).toNat := hsum
    rw [exec_dadOf, addPairToHl, ← hsum', ← decide_le_eq_testBit_sixteen (by omega), ← highByte_ofNat, ← lowByte_ofNat]
    rfl

/-! ### Decimal adjust (41_arithmetic.md section 5) -/

theorem daaAdjust_toNat (a : Byte) (ac cy : Bool) :
    (daaAdjust a ac cy).toNat = (if ac = true ∨ 9 < a.toNat % 16 then 6 else 0) +
      if daaHighAdjust a cy = true then 0x60 else 0 := by
  rw [daaAdjust]
  by_cases hlow : ac = true ∨ 9 < a.toNat % 16
  · have hc : (ac || decide (9 < a.toNat % 16)) = true := by simpa using hlow
    rw [if_pos hc, if_pos hlow]
    cases daaHighAdjust a cy <;> rfl
  · have hc : ¬(ac || decide (9 < a.toNat % 16)) = true := by simpa using hlow
    rw [if_neg hc, if_neg hlow]
    cases daaHighAdjust a cy <;> rfl

theorem exec_daa_next (s : State) :
    exec .daa s = .next { s with
      regs := { s.regs with a := BitVec.ofNat 8 (s.regs.a.toNat + (daaAdjust s.regs.a s.flags.ac s.flags.cy).toNat) },
      flags := { sumFlags s.regs.a (daaAdjust s.regs.a s.flags.ac s.flags.cy) false with
        cy := daaHighAdjust s.regs.a s.flags.cy },
      tstates := s.figure 0x27#8 true } := by
  rw [exec_daa, decimalAdjust, aluAdd_eq]
  rfl

/-- Settles O46: the adjustment by `daaAdjust_toNat`. -/
theorem decimalAdjustRule : Obligations.DecimalAdjustRule := by
  refine ⟨rfl, opcode_daa.performs, fun s lo hi adj high hlo hhi hhigh hadj => ?_⟩
  have hh : daaHighAdjust s.regs.a s.flags.cy = high := by rw [hhigh, hlo, hhi]; rfl
  have ha : (daaAdjust s.regs.a s.flags.ac s.flags.cy).toNat = adj := by rw [daaAdjust_toNat, hh, hadj, hlo]
  rw [exec_daa_next, hh, sumFlags, ha, hlo]
  rfl

/-- Adding packed decimals gives tens `h` and units `l` before the adjustment: all 380 of them. -/
theorem daa_of_packedSum : ∀ (h : Fin 19) (l : Fin 20),
    let x := BitVec.ofNat 8 (16 * h.val + l.val)
    BitVec.ofNat 8 (x.toNat + (daaAdjust x (decide (15 < l.val)) (decide (255 < 16 * h.val + l.val))).toNat) =
      packedDecimal ((10 * h.val + l.val) % 100) ∧
    daaHighAdjust x (decide (255 < 16 * h.val + l.val)) = decide (100 ≤ 10 * h.val + l.val) := by decide

theorem packedDecimal_toNat {n : Nat} (h : n < 100) : (packedDecimal n).toNat = 16 * (n / 10) + n % 10 := by
  rw [packedDecimal, BitVec.toNat_ofNat]
  omega

/-- The sum of two packed decimals and a carry before the adjustment: `AC` and `CY` of the sums of units and of all. -/
theorem adc_of_packedDecimal {m n : Nat} (hm : m < 100) (hn : n < 100) (cin : Bool) :
    let l := m % 10 + n % 10 + bit cin
    let t := 16 * (m / 10 + n / 10) + l
    aluValue .adc (packedDecimal m) (packedDecimal n) cin = BitVec.ofNat 8 t ∧
    (aluFlags .adc (packedDecimal m) (packedDecimal n) cin).ac = decide (15 < l) ∧
    (aluFlags .adc (packedDecimal m) (packedDecimal n) cin).cy = decide (255 < t) := by
  have hsum : (packedDecimal m).toNat + (packedDecimal n).toNat + bit cin =
      16 * (m / 10 + n / 10) + (m % 10 + n % 10 + bit cin) := by
    rw [packedDecimal_toNat hm, packedDecimal_toNat hn]
    ring
  refine ⟨?value, ?ac, ?cy⟩
  case value => rw [aluValue, ← ofNat_sum, hsum]
  case ac =>
    change decide _ = _
    rw [packedDecimal_toNat hm, packedDecimal_toNat hn, decide_eq_decide]
    omega
  case cy =>
    change decide _ = _
    rw [hsum]

/-- Settles O47: the sum of the tens and the sum of the units with the carry are what DAA adjusts. -/
theorem decimalAdjustGivesDecimalSum : Obligations.DecimalAdjustGivesDecimalSum := by
  intro s t u m n hm hn ha hb ht hu
  have hb' : s.getReg .b = packedDecimal n := hb
  obtain ⟨hvalue, hac, hcy⟩ := adc_of_packedDecimal hm hn s.flags.cy
  have hc : bit s.flags.cy ≤ 1 := by cases s.flags.cy <;> decide
  obtain rfl := Host.Outcome.next.inj ((exec_aluOf_of_readable (r := .reg .b) .adc rfl).symm.trans ht)
  obtain rfl := Host.Outcome.next.inj ((exec_daa_next _).symm.trans hu)
  obtain ⟨hresult, hcarry⟩ :=
    daa_of_packedSum ⟨m / 10 + n / 10, by omega⟩ ⟨m % 10 + n % 10 + bit s.flags.cy, by omega⟩
  have hdec : 10 * (m / 10 + n / 10) + (m % 10 + n % 10 + bit s.flags.cy) = m + n + bit s.flags.cy := by omega
  rw [hdec] at hresult hcarry
  simp only [State.operandValue, ha, hb', hvalue, hac, hcy]
  exact ⟨hresult, hcarry⟩

/-! ### Logical operations and compares (42_logical.md sections 1 to 3) -/

/-- Settles O48: the primitives and the instructions by `aluValue` and `aluFlags`. -/
theorem logicalOperations : Obligations.LogicalOperations := by
  refine ⟨fun r => ⟨figure_aluOf .ana r, figure_aluOf .xra r, figure_aluOf .ora r⟩,
    fun r => ⟨(opcode_aluOf .ana r).performs, (opcode_aluOf .xra r).performs, (opcode_aluOf .ora r).performs⟩,
    fun s v => ⟨aluApply_eq .ana v s, aluApply_eq .xra v s, aluApply_eq .ora v s⟩,
    fun s r v hv => ⟨fun h => ?_, fun h op _ => exec_aluOf_of_unreadable op h⟩⟩
  subst hv
  exact ⟨exec_aluOf_of_readable .ana h, exec_aluOf_of_readable .xra h, exec_aluOf_of_readable .ora h⟩

/-- The flags of a compare in the words of R213: zero is equality, the borrow is `A < v`. -/
theorem differenceFlags_compare (a v : Byte) :
    differenceFlags a v false =
      { s := (a - v).getLsbD 7, z := decide (a = v), ac := decide (v.toNat % 16 ≤ a.toNat % 16), p := evenOnes (a - v),
        cy := decide (a.toNat < v.toNat) } := by
  have hd : difference a v false = a - v := BitVec.sub_zero _
  have hz : decide ((a - v).toNat = 0) = decide (a = v) := by
    rw [decide_eq_decide]
    bv_omega
  rw [differenceFlags, hd, resultFlags, hz, getLsbD_seven_eq]
  rfl

theorem State.afterOperand_setA (s : State) (r : RegM) (n : Nat) (f : Flags) :
    { s.afterOperand r with regs := { s.regs with a := s.regs.a }, flags := f, tstates := n } =
      { s.afterOperand r with flags := f, tstates := n } := by
  cases r <;> rfl

/-- Settles O49: as O48, and the compare by `differenceFlags_compare`. -/
theorem logicalImmediatesAndCompare : Obligations.LogicalImmediatesAndCompare := by
  refine ⟨rfl, rfl, rfl, rfl, figure_aluOf .cmp, (opcode_aluImmOf .ana).performs, (opcode_aluImmOf .xra).performs,
    (opcode_aluImmOf .ora).performs, (opcode_aluImmOf .cmp).performs, fun r => (opcode_aluOf .cmp r).performs,
    fun s v => ⟨exec_aluImmOf_next .ana v s, exec_aluImmOf_next .xra v s, exec_aluImmOf_next .ora v s⟩,
    fun s r v w compared hv hcompared => ?_⟩
  have hflags (x : Byte) : compared x = differenceFlags s.regs.a x false := by rw [hcompared, differenceFlags_compare]
  refine ⟨fun h => ?readable, exec_aluOf_of_unreadable .cmp, ?immediate⟩
  case readable =>
    rw [hflags, hv, exec_aluOf_of_readable .cmp h]
    exact congrArg Host.Outcome.next (s.afterOperand_setA r _ _)
  case immediate =>
    rw [hflags]
    exact exec_aluImmOf_next .cmp w s

/-! ### Rotates, complement and carry (42_logical.md sections 4 and 5) -/

/-- The rotates in the spec's integer formulas. -/
theorem rotate_toNat : ∀ (a : Byte) (cy : Bool),
    a.extractLsb' 0 7 ++ BitVec.ofBool (a.getLsbD 7) = BitVec.ofNat 8 (a.toNat * 2 % 256 + a.toNat / 128) ∧
    BitVec.ofBool (a.getLsbD 0) ++ a.extractLsb' 1 7 = BitVec.ofNat 8 (a.toNat / 2 + a.toNat % 2 * 128) ∧
    a.extractLsb' 0 7 ++ BitVec.ofBool cy = BitVec.ofNat 8 (a.toNat * 2 % 256 + bit cy) ∧
    BitVec.ofBool cy ++ a.extractLsb' 1 7 = BitVec.ofNat 8 (a.toNat / 2 + bit cy * 128) :=
  forall_byte (by decide)

theorem getLsbD_zero_eq : ∀ a : Byte, a.getLsbD 0 = decide (a.toNat % 2 = 1) :=
  forall_byte (by decide)

theorem complement_eq : ∀ a : Byte, a ^^^ 0xFF#8 = BitVec.ofNat 8 (255 - a.toNat) :=
  forall_byte (by decide)

/-- Settles O50: the rotated bytes by `rotate_toNat`. -/
theorem rotatesComplementAndCarry : Obligations.RotatesComplementAndCarry := by
  refine ⟨by decide, opcode_rlc.performs, opcode_rrc.performs, opcode_ral.performs, opcode_rar.performs,
    opcode_cma.performs, opcode_stc.performs, opcode_cmc.performs, fun s a ha => ?_⟩
  subst ha
  obtain ⟨hrlc, hrrc, hral, hrar⟩ := rotate_toNat s.regs.a s.flags.cy
  refine ⟨?rlc, ?rrc, ?ral, ?rar, ?cma, rfl, rfl⟩
  case rlc => rw [← hrlc, ← getLsbD_seven_eq]; rfl
  case rrc => rw [← hrrc, ← getLsbD_zero_eq]; rfl
  case ral => rw [← hral, ← getLsbD_seven_eq]; rfl
  case rar => rw [← hrar, ← getLsbD_zero_eq]; rfl
  case cma => rw [← complement_eq]; rfl

end Sys2Proof.Machine
end

section
/-! Data transfer (40_data_transfer.md): each instruction by the equation of its meaning over `answer`. -/

namespace Sys2Proof.Machine

/-! ### Words as their two bytes -/

theorem State.setPair_bc_wordOf (s : State) (hi lo : Byte) :
    s.setPair .bc (wordOf hi lo) = { s with regs := { s.regs with b := hi, c := lo } } := by
  rw [State.setPair, Regs.setBc, highByte_wordOf, lowByte_wordOf]

theorem State.setPair_de_wordOf (s : State) (hi lo : Byte) :
    s.setPair .de (wordOf hi lo) = { s with regs := { s.regs with d := hi, e := lo } } := by
  rw [State.setPair, Regs.setDe, highByte_wordOf, lowByte_wordOf]

theorem State.setPair_hl_wordOf (s : State) (hi lo : Byte) :
    s.setPair .hl (wordOf hi lo) = { s with regs := { s.regs with h := hi, l := lo } } := by
  rw [State.setPair, Regs.setHl, highByte_wordOf, lowByte_wordOf]

theorem State.afterWrite16_wordOf (s : State) (a : Word) (hi lo : Byte) :
    s.afterWrite16 a (wordOf hi lo) = (s.afterWrite a lo).afterWrite (a + 1) hi := by
  rw [State.afterWrite16, highByte_wordOf, lowByte_wordOf]

theorem State.afterPush_wordOf (s : State) (hi lo : Byte) :
    s.afterPush (wordOf hi lo) = ((s.afterWrite (s.sp - 1) hi).afterWrite (s.sp - 2) lo).setSp (s.sp - 2) := by
  rw [State.afterPush, highByte_wordOf, lowByte_wordOf]

/-! ### Moves and immediates -/

/-- Settles O36: the meaning of MOV is the statement. -/
theorem movRegisterToRegister : Obligations.MovRegisterToRegister :=
  ⟨fun dst src => by cases dst <;> cases src <;> rfl,
    fun dst src => ⟨(opcode_movOf dst src).performs, exec_movOf dst src⟩⟩

/-- Settles O37: the one access allowed, or denied. -/
theorem movThroughMemoryOperand : Obligations.MovThroughMemoryOperand := by
  refine ⟨fun r => by cases r <;> exact ⟨rfl, rfl⟩, fun dst => ⟨(opcode_movFromMOf dst).performs, fun s => ?load⟩,
    fun src => ⟨(opcode_movToMOf src).performs, fun s => ?store⟩⟩
  case load =>
    have h := (exec_movFromMOf dst s).trans (movFromMemory_eq dst s)
    exact ⟨fun ha => h.trans (answer_of_allowed_one ha), fun ha => h.trans (answer_of_denied_one ha)⟩
  case store =>
    have h := (exec_movToMOf src s).trans (movToMemory_eq src s)
    exact ⟨fun ha => h.trans (answer_of_allowed_one ha), fun ha => h.trans (answer_of_denied_one ha)⟩

/-- Settles O38: the meaning of MVI is the statement. -/
theorem mviLoadsImmediateByte : Obligations.MviLoadsImmediateByte :=
  ⟨fun r => by cases r <;> rfl, fun r => ⟨(opcode_mviOf r).performs, exec_mviOf r⟩⟩

/-- Settles O39: one equation for each of the four pairs. -/
theorem lxiLoadsImmediateWord : Obligations.LxiLoadsImmediateWord :=
  ⟨fun p => by cases p <;> rfl, fun p => (opcode_lxiOf p).performs,
    fun w s => ⟨exec_lxiOf .bc w s, exec_lxiOf .de w s, exec_lxiOf .hl w s, exec_lxiOf .sp w s⟩⟩

/-! ### Loads and stores -/

/-- Settles O40: each instruction makes one access. -/
theorem byteLoadsAndStores : Obligations.ByteLoadsAndStores := by
  refine ⟨rfl, rfl, rfl, fun p => by cases p <;> exact ⟨rfl, rfl⟩, opcode_mviM.performs, opcode_lda.performs,
    opcode_sta.performs, fun p => ⟨(opcode_ldaxOf p).performs, (opcode_staxOf p).performs⟩, fun s d a bcde p hbcde => ?_⟩
  have haddr : bcde = s.getPair (indexRegPair p) := by cases p <;> exact hbcde
  subst haddr
  have hmvi := (exec_mviM d s).trans (mviMemory_eq d s)
  have hlda := (exec_lda a s).trans (loadDirect_eq a s)
  have hsta := (exec_sta a s).trans (storeDirect_eq a s)
  have hldax := (exec_ldaxOf p s).trans (loadIndexed_eq p s)
  have hstax := (exec_staxOf p s).trans (storeIndexed_eq p s)
  exact ⟨fun ha => hmvi.trans (answer_of_allowed_one ha), faultsAtFirstDenied_of_eq hmvi,
    fun ha => hlda.trans (answer_of_allowed_one ha), faultsAtFirstDenied_of_eq hlda,
    fun ha => hsta.trans (answer_of_allowed_one ha), faultsAtFirstDenied_of_eq hsta,
    fun ha => hldax.trans (answer_of_allowed_one ha), faultsAtFirstDenied_of_eq hldax,
    fun ha => hstax.trans (answer_of_allowed_one ha), faultsAtFirstDenied_of_eq hstax⟩

/-- Settles O41: two accesses in order; a word stored or loaded is its two bytes. -/
theorem wordLoadsStoresAndExchange : Obligations.WordLoadsStoresAndExchange := by
  refine ⟨rfl, rfl, rfl, opcode_lhld.performs, opcode_shld.performs, opcode_xchg.performs, fun s a => ?_⟩
  have hlhld := (exec_lhld a s).trans (loadHlDirect_eq a s)
  have hshld := (exec_shld a s).trans (storeHlDirect_eq a s)
  refine ⟨fun hlow hhigh => ?load, faultsAtFirstDenied_of_eq hlhld, fun hlow hhigh => ?store,
    faultsAtFirstDenied_of_eq hshld, exec_xchg s⟩
  case load =>
    rw [hlhld, answer_of_allowed_two hlow hhigh, State.wordAt, State.setPair_hl_wordOf]
    rfl
  case store =>
    have hstored : s.afterWrite16 a s.hl = (s.afterWrite a s.regs.l).afterWrite (a + 1) s.regs.h :=
      s.afterWrite16_wordOf a s.regs.h s.regs.l
    rw [hshld, answer_of_allowed_two hlow hhigh, hstored]
    rfl

end Sys2Proof.Machine
end

section
/-! Branches (43_branch.md), the stack, input and output and control (44_stack_io_control.md): each instruction by the
equation of its meaning over `answer`. -/

namespace Sys2Proof.Machine

/-! ### Conditions taken and not (43_branch.md R250) -/

section
variable {cond : Cond} {s : State}

theorem exec_jccOf_taken (a : Word) (h : s.flags.satisfies cond = true) :
    exec (.jccOf cond a) s = .next ((s.setPc a).withT (s.figure (0b11#2 ++ cond.field ++ 0b010#3) true)) := by
  rw [exec_jccOf, jumpIf_eq, if_pos h]; rfl

theorem exec_jccOf_untaken (a : Word) (h : s.flags.satisfies cond = false) :
    exec (.jccOf cond a) s = .next (s.withT s.tJccNotTaken) := by
  rw [exec_jccOf, jumpIf_eq, if_neg (Bool.eq_false_iff.mp h)]; rfl

theorem exec_cccOf_taken (a : Word) (h : s.flags.satisfies cond = true) :
    exec (.cccOf cond a) s = answer (s.firstDenied [(s.sp - 1, .write), (s.sp - 2, .write)])
      (((s.afterPush s.pc).setPc a).withT (s.figure (0b11#2 ++ cond.field ++ 0b100#3) true)) := by
  rw [exec_cccOf, callIf_eq, if_pos h, if_pos h]

theorem exec_cccOf_untaken (a : Word) (h : s.flags.satisfies cond = false) :
    exec (.cccOf cond a) s = .next (s.withT (s.figure (0b11#2 ++ cond.field ++ 0b100#3) false)) := by
  rw [exec_cccOf, callIf_eq, if_neg (Bool.eq_false_iff.mp h), if_neg (Bool.eq_false_iff.mp h)]; rfl

theorem exec_rccOf_taken (h : s.flags.satisfies cond = true) :
    exec (.rccOf cond) s = answer (s.firstDenied [(s.sp, .read), (s.sp + 1, .read)])
      ((s.afterPop.setPc (s.wordAt s.sp)).withT (s.figure (0b11#2 ++ cond.field ++ 0b000#3) true)) := by
  rw [exec_rccOf, returnIf_eq, if_pos h, if_pos h]

theorem exec_rccOf_untaken (h : s.flags.satisfies cond = false) :
    exec (.rccOf cond) s = .next (s.withT (s.figure (0b11#2 ++ cond.field ++ 0b000#3) false)) := by
  rw [exec_rccOf, returnIf_eq, if_neg (Bool.eq_false_iff.mp h), if_neg (Bool.eq_false_iff.mp h)]; rfl

end

/-- The condition table. -/
theorem satisfies_table (f : Flags) :
    f.satisfies .nz = !f.z ∧ f.satisfies .z = f.z ∧ f.satisfies .nc = !f.cy ∧ f.satisfies .c = f.cy ∧
      f.satisfies .po = !f.p ∧ f.satisfies .pe = f.p ∧ f.satisfies .p = !f.s ∧ f.satisfies .m = f.s := by
  rcases f with ⟨s, z, ac, p, cy⟩
  revert s z ac p cy
  decide

/-! ### Jumps, calls and returns -/

/-- Settles O51: the condition taken and not. -/
theorem jumpsGoToTheirTarget : Obligations.JumpsGoToTheirTarget :=
  ⟨rfl, rfl, fun cond => by cases cond <;> rfl, rfl, opcode_jmp.performs, opcode_jmpAlias.performs, opcode_pchl.performs,
    fun cond => (opcode_jccOf cond).performs, satisfies_table,
    fun s a _ => ⟨exec_jmp a s, exec_jmpAlias a s, exec_pchl s, exec_jccOf_taken a, exec_jccOf_untaken a⟩⟩

/-- Settles O52: a push of `pc`, then the jump. -/
theorem callPushesReturnAddress : Obligations.CallPushesReturnAddress := by
  refine ⟨rfl, opcode_call.performs, fun s a => ?_⟩
  have h := (exec_call a s).trans (callTo_eq a s)
  exact ⟨fun hhigh hlow => h.trans (answer_of_allowed_two hhigh hlow), faultsAtFirstDenied_of_eq h⟩

/-- Settles O53: a push of `pc`, then the jump; untaken, nothing but the figure. -/
theorem conditionalCallsAndRestarts : Obligations.ConditionalCallsAndRestarts := by
  refine ⟨fun cond => by cases cond <;> exact ⟨rfl, rfl⟩, rfl, fun n => by fin_cases n <;> rfl,
    fun cond => (opcode_cccOf cond).performs, (opcode_callAlias (pp := 1#2) (by decide)).performs,
    (opcode_callAlias (pp := 2#2) (by decide)).performs, (opcode_callAlias (pp := 3#2) (by decide)).performs,
    fun n => (opcode_rstOf n).performs, fun s a cond pp n => ?_⟩
  have halias := (exec_callAlias pp a s).trans (callTo_eq a s)
  have hrst := (exec_rstOf n s).trans (restart_eq n s)
  rw [(rst_opcode n).2] at hrst
  exact ⟨fun hpush => ⟨fun hc => (exec_cccOf_taken a hc).trans (answer_of_pushable hpush),
      halias.trans (answer_of_pushable hpush), hrst.trans (answer_of_pushable hpush)⟩,
    exec_cccOf_untaken a, fun hc => faultsAtFirstDenied_of_eq (exec_cccOf_taken a hc),
    faultsAtFirstDenied_of_eq halias, faultsAtFirstDenied_of_eq hrst⟩

/-- Settles O54: a pop to `pc`; untaken, nothing but the figure. -/
theorem returnsPopTheirTarget : Obligations.ReturnsPopTheirTarget := by
  refine ⟨fun cond => by cases cond <;> exact ⟨rfl, rfl⟩, rfl, opcode_ret.performs, opcode_retAlias.performs,
    fun cond => (opcode_rccOf cond).performs, fun s cond w hw => ?_⟩
  subst hw
  have hret := (exec_ret s).trans (returnFrom_eq s)
  have halias := (exec_retAlias s).trans (returnFrom_eq s)
  exact ⟨fun hlow hhigh => ⟨hret.trans (answer_of_allowed_two hlow hhigh), halias.trans (answer_of_allowed_two hlow hhigh),
      fun hc => (exec_rccOf_taken hc).trans (answer_of_allowed_two hlow hhigh)⟩,
    exec_rccOf_untaken, faultsAtFirstDenied_of_eq hret, faultsAtFirstDenied_of_eq halias,
    fun hc => faultsAtFirstDenied_of_eq (exec_rccOf_taken hc)⟩

/-! ### The stack -/

theorem exec_pushOf_eq (p : StackPair) (s : State) :
    exec (.pushOf p) s = answer (s.firstDenied [(s.sp - 1, .write), (s.sp - 2, .write)])
      ((s.afterPush (s.getPair (stackRegPair p))).withT (s.figure (0b11#2 ++ p.field ++ 0b0101#4) true)) :=
  (exec_pushOf p s).trans (pushPair_eq p s)

theorem exec_popOf_eq (p : StackPair) (s : State) :
    exec (.popOf p) s = answer (s.firstDenied [(s.sp, .read), (s.sp + 1, .read)])
      ((s.afterPop.setPair (stackRegPair p) (s.wordAt s.sp)).withT (s.figure (0b11#2 ++ p.field ++ 0b0001#4) true)) :=
  (exec_popOf p s).trans (popPair_eq p s)

/-- A push of a pair stores its high register, then its low one. -/
theorem exec_pushOf_next {p : StackPair} {s : State} {hi lo : Byte} (hp : s.getPair (stackRegPair p) = wordOf hi lo)
    (hhigh : s.allows (s.sp - 1) .write = true) (hlow : s.allows (s.sp - 2) .write = true) :
    exec (.pushOf p) s = .next { (s.afterWrite (s.sp - 1) hi).afterWrite (s.sp - 2) lo with
      sp := s.sp - 2, tstates := s.figure (0b11#2 ++ p.field ++ 0b0101#4) true } := by
  rw [exec_pushOf_eq, answer_of_allowed_two hhigh hlow, hp, State.afterPush_wordOf]
  rfl

/-- Settles O55: a word pushed or popped is its two bytes. -/
theorem pushAndPopPairs : Obligations.PushAndPopPairs := by
  refine ⟨fun p => by cases p <;> exact ⟨rfl, rfl⟩, fun p => ⟨(opcode_pushOf p).performs, (opcode_popOf p).performs⟩,
    fun s => ⟨fun hhigh hlow => ?push, fun p => faultsAtFirstDenied_of_eq (exec_pushOf_eq p s), fun hlow hhigh => ?pop,
      fun p => faultsAtFirstDenied_of_eq (exec_popOf_eq p s)⟩⟩
  case push =>
    exact ⟨exec_pushOf_next (p := .bc) rfl hhigh hlow, exec_pushOf_next (p := .de) rfl hhigh hlow,
      exec_pushOf_next (p := .hl) rfl hhigh hlow⟩
  case pop =>
    have hpop (p : StackPair) := (exec_popOf_eq p s).trans (answer_of_allowed_two hlow hhigh)
    refine ⟨(hpop .bc).trans ?popB, (hpop .de).trans ?popD, (hpop .hl).trans ?popH⟩
    case popB => rw [stackRegPair, State.wordAt, State.setPair_bc_wordOf]; rfl
    case popD => rw [stackRegPair, State.wordAt, State.setPair_de_wordOf]; rfl
    case popH => rw [stackRegPair, State.wordAt, State.setPair_hl_wordOf]; rfl

theorem exec_pushPSW_eq (s : State) :
    exec .pushPSW s = answer (s.firstDenied [(s.sp - 1, .write), (s.sp - 2, .write)])
      ((s.afterPush (wordOf s.regs.a (packPSW s.flags))).withT (s.figure 0xF5#8 true)) :=
  (exec_pushPSW s).trans (pushStatus_eq s)

theorem exec_popPSW_eq (s : State) :
    exec .popPSW s = answer (s.firstDenied [(s.sp, .read), (s.sp + 1, .read)])
      ((s.afterPop.withAF (s.byteAt (s.sp + 1)) (unpackPSW (s.byteAt s.sp))).withT (s.figure 0xF1#8 true)) :=
  (exec_popPSW s).trans (popStatus_eq s)

theorem answer_of_poppable {s t : State} (h : s.poppable = true) :
    answer (s.firstDenied [(s.sp, .read), (s.sp + 1, .read)]) t = .next t := by
  obtain ⟨hlow, hhigh⟩ := Bool.and_eq_true_iff.mp h
  exact answer_of_allowed_two hlow hhigh

/-- Settles O56: the popped bytes are those of the push, and unpacking undoes packing. -/
theorem pushAndPopStatus : Obligations.PushAndPopStatus := by
  refine ⟨rfl, rfl, opcode_pushPSW.performs, opcode_popPSW.performs, fun s h => ?push,
    fun s => faultsAtFirstDenied_of_eq (exec_pushPSW_eq s), fun s h => (exec_popPSW_eq s).trans (answer_of_poppable h),
    fun s => faultsAtFirstDenied_of_eq (exec_popPSW_eq s), fun s t t' u a f hwf hpush ht' hpop => ?roundtrip⟩
  case push => rw [exec_pushPSW_eq, answer_of_pushable h, State.afterPush_wordOf]; rfl
  case roundtrip =>
    obtain ⟨-, rfl⟩ := exec_next hpush
    obtain ⟨-, rfl⟩ := exec_next hpop
    subst ht'
    have hhigh := State.afterPush_byteAt_high (wordOf s.regs.a (packPSW s.flags)) hwf
    have hlow := State.afterPush_byteAt_low (wordOf s.regs.a (packPSW s.flags)) hwf
    have hnext : s.sp - 2 + 1 = s.sp - 1 := by bv_omega
    rw [highByte_wordOf, ← hnext] at hhigh
    rw [lowByte_wordOf] at hlow
    rw [nextState_pushPSW, nextState_popPSW]
    exact ⟨hhigh, (congrArg unpackPSW hlow).trans (packPSW_spec s.flags).2.2, BitVec.sub_add_cancel s.sp 2⟩

/-- Settles O57: the four accesses in order. -/
theorem stackTopExchangeAndSphl : Obligations.StackTopExchangeAndSphl := by
  refine ⟨rfl, rfl, opcode_xthl.performs, opcode_sphl.performs, fun s => ?_⟩
  have hxthl := (exec_xthl s).trans (exchangeStackTop_eq s)
  refine ⟨fun hnone => ?exchanged, faultsAtFirstDenied_of_eq hxthl, exec_sphl s⟩
  have hstored : (s.afterRead16 s.sp).afterWrite16 s.sp s.hl =
      ((s.afterRead16 s.sp).afterWrite s.sp s.regs.l).afterWrite (s.sp + 1) s.regs.h :=
    (s.afterRead16 s.sp).afterWrite16_wordOf s.sp s.regs.h s.regs.l
  rw [hxthl, hnone, answer_none, hstored, State.wordAt, State.setPair_hl_wordOf]
  rfl

/-! ### Input and output (20_memory.md R74, R75) -/

/-- Settles O58: the byte, the script and the counter of draws are what `ioIn` gives for each device. -/
theorem portInputAndOutput : Obligations.PortInputAndOutput := by
  refine ⟨rfl, rfl, opcode_inPort.performs, opcode_outPort.performs, fun s port =>
    ⟨?completes, fun h => ?silent, fun v script h => ?script, fun v h hv => ?drawn, exec_outPort port s⟩⟩
  case completes =>
    obtain ⟨dev, n, hio⟩ := ioIn_frame port s
    refine ⟨((ioIn port s).2.setReg .a (ioIn port s).1).withT (s.figure 0xDB#8 true), (ioIn port s).1, rfl, ?_⟩
    rw [hio]
    exact ⟨rfl, rfl, rfl, rfl⟩
  case silent => rw [exec_inPort, inputFrom, ioIn_silent port h]; rfl
  case script => rw [exec_inPort, inputFrom, ioIn_script port v script h]; rfl
  case drawn => rw [exec_inPort, inputFrom, ioIn_drawn port h, hv]; rfl

/-! ### Control -/

theorem exec_hlt_next {s : State} {w : Word} (h : s.pc - 1 = w) :
    exec .hlt s = .next { s with pc := w, tstates := s.figure 0x76#8 true } := by
  rw [exec_hlt, haltBackUp, h]
  rfl

/-- Settles O59: each meaning is the statement, `HLT` with the decrement as an addition. -/
theorem enableHaltAndNoOperation : Obligations.EnableHaltAndNoOperation :=
  ⟨rfl, rfl, rfl, rfl, opcode_ei.performs, opcode_di.performs, opcode_hlt.performs, opcode_nop.performs,
    fun _ h => (opcode_nopAlias h).performs,
    fun s nnn => ⟨exec_ei s, exec_di s, exec_hlt_next (word_pred s.pc), exec_nop s, exec_nopAlias nnn s⟩⟩

end Sys2Proof.Machine
end

section
/-! The figure a performed opcode returns (00_scope.md section 4, 70_reset_and_hazards.md section 6). -/

namespace Sys2Proof.Machine

/-- Each of the 256 entries of the opcode map without a condition returns the taken figure of its documented opcode. -/
theorem tstates_of_hasCondition_false (d : Byte) (w : Word) (s : State) :
    ∀ op, hasCondition op = false → (nextState (instrOf op d w) s).tstates = s.figure (documentedOpcode op) true :=
  forall_byte (by intro m n h; fin_cases m <;> fin_cases n <;> cases h <;> rfl)

/-- An instruction of the map, whatever its format. -/
theorem State.exists_instrAt_eq (s : State) (op : Byte) : ∃ d w, s.instrAt op = instrOf op d w := by
  unfold State.instrAt
  split <;> exact ⟨_, _, rfl⟩

/-- What `Execute(op)` answers is what its instruction leaves, `pc` past the operands. -/
theorem executeOpcode_next {op : Byte} {s t : State} (h : executeOpcode op s = .next t) :
    t = nextState (s.instrAt op) (s.afterFetch (operandCount op)) := by
  rw [executeOpcode_eq_answer] at h
  exact (answer_eq_next.mp h).2.symm

theorem OpcodeF1.instrAt {op : Byte} {i : Instr} (h : OpcodeF1 op i) (s : State) : s.instrAt op = i := by
  rw [State.instrAt, h.format]
  exact h.instr _ _

theorem OpcodeF3.instrAt {op : Byte} {i : Word → Instr} (h : OpcodeF3 op i) (s : State) :
    s.instrAt op = i (s.wordAt s.pc) := by
  rw [State.instrAt, h.format]
  exact h.instr _ _

theorem tstates_of_rccOf (cond : Cond) (s : State) :
    (nextState (.rccOf cond) s).tstates = s.figure (0b11#2 ++ cond.field ++ 0b000#3) (s.flags.satisfies cond) := by
  rw [nextState_rccOf]
  cases s.flags.satisfies cond <;> rfl

theorem tstates_of_cccOf (cond : Cond) (a : Word) (s : State) :
    (nextState (.cccOf cond a) s).tstates = s.figure (0b11#2 ++ cond.field ++ 0b100#3) (s.flags.satisfies cond) := by
  rw [nextState_cccOf]
  cases s.flags.satisfies cond <;> rfl

theorem tstates_of_jccOf (cond : Cond) (a : Word) (s : State) :
    (nextState (.jccOf cond a) s).tstates = if s.flags.satisfies cond = true then
      s.figure (0b11#2 ++ cond.field ++ 0b010#3) true else s.tJccNotTaken := by
  rw [nextState_jccOf]
  cases s.flags.satisfies cond <;> rfl

/-- Settles O60: fetching operands changes neither the figures nor the flags, so the instruction's figure is `s`'s. -/
theorem performedOpcodeReturnsItsFigure : Obligations.PerformedOpcodeReturnsItsFigure := by
  refine ⟨fun op s t hc h => ?unconditional, fun cond s t => ⟨fun h => ?ret, fun h => ?call, fun h => ?jump⟩⟩
  case unconditional =>
    obtain ⟨d, w, hi⟩ := s.exists_instrAt_eq op
    rw [executeOpcode_next h, hi, tstates_of_hasCondition_false d w _ op hc, State.afterFetch_figure]
  case ret =>
    rw [executeOpcode_next h, (opcode_rccOf cond).instrAt, tstates_of_rccOf, State.afterFetch_figure, State.afterFetch_flags]
  case call =>
    rw [executeOpcode_next h, (opcode_cccOf cond).instrAt, tstates_of_cccOf, State.afterFetch_figure, State.afterFetch_flags]
  case jump =>
    rw [executeOpcode_next h, (opcode_jccOf cond).instrAt, tstates_of_jccOf, State.afterFetch_figure, State.afterFetch_flags,
      State.afterFetch_tJccNotTaken]

end Sys2Proof.Machine
end
